-- ==== Sys2Proof/Word.lean ====
section
/-! DEFINITION. The word types of the command port and of the sample store. -/

namespace Sys2Proof

/-- A 32-bit word: CMD, DATA and RDATA of the port (R67), a sample word (R52). -/
abbrev Word := BitVec 32

/-- One 16-bit two's-complement audio channel value (R10). -/
abbrev Channel := BitVec 16

/-- A channel number field of a command, CMD[23:20] (R69). -/
abbrev ChannelNo := BitVec 4

/-- A rate field of a command, CMD[6:0], in [0, 127] (R72). -/
abbrev Rate := BitVec 7

end Sys2Proof
end

