-- ==== Sys2Proof/Config.lean ====
section
/-! DEFINITION. The implementation parameters (R8 to R18 and the open parameters of 92_eei_decisions.md), and the
free values (draws). No parameter and no free value has a value here. -/

namespace Sys2Proof

/-- The parameters a model of the block takes as arguments (R27, R18: fixed before the block leaves reset, and no
command can change them). The ranges of table entries are carried by their types; the other constraints are
`Config.wellFormed`. -/
structure Config where
  /-- N_B, the number of blocks in the ring (R8). -/
  numBlocks : Nat
  /-- S, the number of stereo samples in a block (R9). -/
  blockSize : Nat
  /-- NUM_GLIDE, the number of glide channels (R12). -/
  numGlide : Nat
  /-- CLK_IN_HZ, informative (R13). The spec says positive; that it is a whole number of hertz is a DESIGN CHOICE (log
  entry 21). -/
  clkInHz : Nat
  /-- CHIP_CLOCK_HZ, informative (R14). The spec says positive; that it is a whole number of hertz is a DESIGN CHOICE (log
  entry 21). -/
  chipClockHz : Nat
  /-- GLIDE_COEF[0..127], each in [0, 65536], the fraction entry/65536 (R15). -/
  glideCoef : Vector (Fin 65537) 128
  /-- LFO_INC[0..127], each in [0, 2^31 - 1] (R16). -/
  lfoInc : Vector (BitVec 31) 128
  /-- SINE[0..256], signed 16-bit entries (R17). -/
  sine : Vector Channel 257
  /-- PORT_BASE, where a platform maps the port, if anywhere (R58). No rule of the block reads it. -/
  portBase : Option Nat
  /-- PORT_BYTE_ORDER, the platform's mapping of a port word to bytes (R53): byte lane i of the bus carries byte
  number `portByteOrder[i]` of the word, byte 0 being bits [7:0]. No rule of the block reads it. -/
  portByteOrder : Vector (Fin 4) 4
  /-- PORT_IN_ORDER, whether the platform delivers transactions in issue order; assumed true (R63). -/
  portInOrder : Bool
  deriving DecidableEq, Repr, Inhabited

/-- R8: 2 <= N_B <= 127. -/
def Config.numBlocksOk (c : Config) : Bool := decide (2 ≤ c.numBlocks ∧ c.numBlocks ≤ 127)

/-- R9: 1 <= S <= 65536. -/
def Config.blockSizeOk (c : Config) : Bool := decide (1 ≤ c.blockSize ∧ c.blockSize ≤ 65536)

/-- R12: 1 <= NUM_GLIDE <= 8. -/
def Config.numGlideOk (c : Config) : Bool := decide (1 ≤ c.numGlide ∧ c.numGlide ≤ 8)

/-- R15: the entries are strictly increasing in the rate. -/
def Config.glideCoefOk (c : Config) : Bool := decide (c.glideCoef.toList.Pairwise (· < ·))

/-- R17: SINE[256] = SINE[0]. -/
def Config.sineOk (c : Config) : Bool := decide (c.sine[256] = c.sine[0])

/-- 92_eei_decisions.md, the open parameters: both clock frequencies are positive. -/
def Config.clocksOk (c : Config) : Bool := decide (0 < c.clkInHz ∧ 0 < c.chipClockHz)

/-- R53, R63: the byte mapping uses each byte of the word once, and PORT_IN_ORDER is assumed true. -/
def Config.portOk (c : Config) : Bool := decide c.portByteOrder.toList.Nodup && c.portInOrder

/-- The constraints the spec puts on the parameters. -/
def Config.wellFormed (c : Config) : Bool :=
  c.numBlocksOk && c.blockSizeOk && c.numGlideOk && c.glideCoefOk && c.sineOk && c.clocksOk && c.portOk

/-- Some configuration: what was fixed before reset. It has no body, so nothing can be proved of its fields. -/
opaque Config.chosen : Config

/-- A configuration that meets every constraint; used only to say that `Config.chip` meets them. -/
def Config.fallback : Config where
  numBlocks := 2
  blockSize := 1
  numGlide := 1
  clkInHz := 1
  chipClockHz := 1
  glideCoef := Vector.ofFn fun r => ⟨r.val, by omega⟩
  lfoInc := Vector.replicate 128 0
  sine := Vector.replicate 257 0
  portBase := none
  portByteOrder := Vector.ofFn id
  portInOrder := true

/-- The configuration the block is reset with: any configuration that meets the constraints, and no other. Each such
configuration is the value of `Config.chip` for some value of `Config.chosen`, so what is proved of `Config.chip` is
proved of all of them. DESIGN CHOICE (log entry 10): the parameters are OPEN (R8 to R17). Safe. -/
def Config.chip : Config := if Config.chosen.wellFormed then Config.chosen else Config.fallback

/-- The draw of a TICK that reads an unwritten word (R57, U1): the n-th draw of the run, any 32-bit value. FREE VALUE
(log entry 6). -/
opaque Config.freeSample : Nat → Word

/-- The draw `lfo_random` of a RANDOM LFO_UPDATE (R19, R101, U3): the n-th draw of the run, any signed 16-bit value.
FREE VALUE (log entry 6). -/
opaque Config.freeRandom : Nat → Channel

end Sys2Proof
end

