-- ==== Sys2Proof/Syntax.lean ====
section
/-! DEFINITION. The 18 commands (R73) with their operands (R72), and the causes for which a CMD word is no command. -/

namespace Sys2Proof

/-- The LFO shapes with their codes 0 to 5 (R98); codes 6 and 7 are reserved and are no shape. -/
inductive Shape where
  | triangle
  | saw
  | square
  | sine
  | ramp
  | random
  deriving DecidableEq, Repr

/-- One command with its operands: the fields of CMD and, where the command uses it, DATA (R69, R71, R72). -/
inductive Instr where
  /-- NOP (R124). -/
  | nop
  /-- GLIDE_INIT ch, rate, target: target is sQ16.16 (R92). -/
  | glideInit (ch : ChannelNo) (rate : Rate) (target : Word)
  /-- GLIDE_UPDATE ch (R93). -/
  | glideUpdate (ch : ChannelNo)
  /-- GLIDE_READ ch (R94). -/
  | glideRead (ch : ChannelNo)
  /-- GLIDE_STATUS ch (R95). -/
  | glideStatus (ch : ChannelNo)
  /-- LFO_INIT ch, rate, start_phase: start_phase is uQ1.31 (R103). -/
  | lfoInit (ch : ChannelNo) (rate : Rate) (startPhase : Word)
  /-- LFO_UPDATE ch, rate, shape, abs (R104). -/
  | lfoUpdate (ch : ChannelNo) (rate : Rate) (shape : Shape) (abs : Bool)
  /-- LFO_PHASE ch (R105). -/
  | lfoPhase (ch : ChannelNo)
  /-- LFO_OUT ch (R106). -/
  | lfoOut (ch : ChannelNo)
  /-- RB_STATUS (R108). -/
  | rbStatus
  /-- RB_WRITE index, sample word L in the high half and R in the low half (R109). -/
  | rbWrite (index : BitVec 16) (sample : Word)
  /-- RB_COMMIT (R110). -/
  | rbCommit
  /-- RB_ACK (R111). -/
  | rbAck
  /-- RB_CURSORS (R112). -/
  | rbCursors
  /-- TC_SET_PERIOD period (R120). -/
  | tcSetPeriod (period : Word)
  /-- TC_ENABLE en (R121). -/
  | tcEnable (en : Bool)
  /-- TC_READ_PERIOD (R122). -/
  | tcReadPeriod
  /-- DAC_READ (R123). -/
  | dacRead
  deriving DecidableEq, Repr

/-- Why a CMD word is no legal encoding (R75, R128): the three causes of an ILLEGAL response, in the order R74 checks
them. -/
inductive IllegalCause where
  /-- OPC is not in the table of R73. -/
  | opcodeUnassigned
  /-- A bit the format marks `0` is 1. -/
  | mustBeZeroSet
  /-- LFO_UPDATE with shape 6 or 7. -/
  | shapeReserved
  deriving DecidableEq, Repr

end Sys2Proof
end

