-- ==== Sys2Proof/WellFormed.lean ====
section
/-! DEFINITION. Which CMD words are legal, by the match and mask of spec/opcode_table.json (R71, R73, R75), and which
operand values a configuration allows (the state-independent value checks of R128). -/

namespace Sys2Proof

/-- One row of the opcode table: a CMD word belongs to the row when its bits under `mask` are `value`. -/
structure TableRow where
  mnemonic : String
  value : Word
  mask : Word
  deriving DecidableEq, Repr

/-- The opcode table (R73 with the formats of R71), row for row as spec/opcode_table.json gives it. -/
def opcodeTable : List TableRow :=
  [⟨"NOP", 0x00000000, 0xFFFFFFFF⟩,
   ⟨"GLIDE_INIT", 0x10000000, 0xFF0FFF80⟩,
   ⟨"GLIDE_UPDATE", 0x11000000, 0xFF0FFFFF⟩,
   ⟨"GLIDE_READ", 0x12000000, 0xFF0FFFFF⟩,
   ⟨"GLIDE_STATUS", 0x13000000, 0xFF0FFFFF⟩,
   ⟨"LFO_INIT", 0x20000000, 0xFF0FFF80⟩,
   ⟨"LFO_UPDATE", 0x21000000, 0xFF0FF080⟩,
   ⟨"LFO_PHASE", 0x22000000, 0xFF0FFFFF⟩,
   ⟨"LFO_OUT", 0x23000000, 0xFF0FFFFF⟩]
  ++ [⟨"RB_STATUS", 0x30000000, 0xFFFFFFFF⟩,
   ⟨"RB_WRITE", 0x31000000, 0xFFFF0000⟩,
   ⟨"RB_COMMIT", 0x32000000, 0xFFFFFFFF⟩,
   ⟨"RB_ACK", 0x33000000, 0xFFFFFFFF⟩,
   ⟨"RB_CURSORS", 0x34000000, 0xFFFFFFFF⟩,
   ⟨"TC_SET_PERIOD", 0x40000000, 0xFFFFFFFF⟩,
   ⟨"TC_ENABLE", 0x41000000, 0xFFFFFFFE⟩,
   ⟨"TC_READ_PERIOD", 0x42000000, 0xFFFFFFFF⟩,
   ⟨"DAC_READ", 0x43000000, 0xFFFFFFFF⟩]

/-- The CMD word belongs to the row. -/
def TableRow.covers (row : TableRow) (cmd : Word) : Bool := cmd &&& row.mask == row.value

/-- The reserved shapes (R75): the word is in the LFO_UPDATE row with shape code 6 or 7, that is CMD[10:9] = 3. -/
def reservedShape (cmd : Word) : Bool :=
  cmd &&& 0xFF000000 == 0x21000000 && cmd &&& 0x00000600 == 0x00000600

/-- The CMD word is a legal encoding: it is in some row of the table and does not hold a reserved shape (R75). -/
def legalCommand (cmd : Word) : Bool :=
  opcodeTable.any (·.covers cmd) && !reservedShape cmd

/-- R128: the glide channel exists. -/
def glideChannelOk (c : Config) (ch : ChannelNo) : Bool := decide (ch.toNat < c.numGlide)

/-- R11, R128: the LFO channel exists; NUM_LFO is 3. -/
def lfoChannelOk (ch : ChannelNo) : Bool := decide (ch.toNat < 3)

/-- R103, R128: a start phase is below 1.0. -/
def startPhaseOk (startPhase : Word) : Bool := decide (startPhase.toNat < 2 ^ 31)

/-- R109, R128: the sample index is inside a block. -/
def sampleIndexOk (c : Config) (index : BitVec 16) : Bool := decide (index.toNat < c.blockSize)

/-- R120, R128: period 0 is not configured. -/
def periodOk (period : Word) : Bool := decide (period ≠ 0)

/-- The command's operand values are among those the configuration allows. A command that is not well-formed is a
legal encoding that the block answers with REFUSED in every state (R74, R128). -/
def Instr.wellFormed (c : Config) : Instr → Bool
  | .nop => true
  | .glideInit ch _ _ => glideChannelOk c ch
  | .glideUpdate ch => glideChannelOk c ch
  | .glideRead ch => glideChannelOk c ch
  | .glideStatus ch => glideChannelOk c ch
  | .lfoInit ch _ startPhase => lfoChannelOk ch && startPhaseOk startPhase
  | .lfoUpdate ch _ _ _ => lfoChannelOk ch
  | .lfoPhase ch => lfoChannelOk ch
  | .lfoOut ch => lfoChannelOk ch
  | .rbStatus => true
  | .rbWrite index _ => sampleIndexOk c index
  | .rbCommit => true
  | .rbAck => true
  | .rbCursors => true
  | .tcSetPeriod period => periodOk period
  | .tcEnable _ => true
  | .tcReadPeriod => true
  | .dacRead => true

end Sys2Proof
end

