-- ==== Sys2Proof/Decode.lean ====
section
/-! DEFINITION. Decoding a transaction (CMD, DATA) to a command or to the cause of its ILLEGAL response (R67 to R75), and
the encoder, from the same layouts. -/

namespace Sys2Proof

/-! ## Fields of CMD (R69, R72) -/

/-- OPC = CMD[31:24]. -/
def opcField (cmd : Word) : BitVec 8 := cmd.extractLsb' 24 8

/-- CH = CMD[23:20]. -/
def chField (cmd : Word) : ChannelNo := cmd.extractLsb' 20 4

/-- rate = CMD[6:0]. -/
def rateField (cmd : Word) : Rate := cmd.extractLsb' 0 7

/-- shape = CMD[10:8]. -/
def shapeField (cmd : Word) : BitVec 3 := cmd.extractLsb' 8 3

/-- abs = CMD[11]. -/
def absField (cmd : Word) : Bool := cmd.getLsbD 11

/-- index = CMD[15:0]. -/
def indexField (cmd : Word) : BitVec 16 := cmd.extractLsb' 0 16

/-- en = CMD[0]. -/
def enField (cmd : Word) : Bool := cmd.getLsbD 0

/-! ## Opcodes, formats and shape codes -/

/-- The 18 opcodes of R73. -/
inductive Opcode where
  | nop
  | glideInit
  | glideUpdate
  | glideRead
  | glideStatus
  | lfoInit
  | lfoUpdate
  | lfoPhase
  | lfoOut
  | rbStatus
  | rbWrite
  | rbCommit
  | rbAck
  | rbCursors
  | tcSetPeriod
  | tcEnable
  | tcReadPeriod
  | dacRead
  deriving DecidableEq, Repr

/-- The OPC values of R73. -/
def Opcode.code : Opcode → BitVec 8
  | .nop => 0x00
  | .glideInit => 0x10
  | .glideUpdate => 0x11
  | .glideRead => 0x12
  | .glideStatus => 0x13
  | .lfoInit => 0x20
  | .lfoUpdate => 0x21
  | .lfoPhase => 0x22
  | .lfoOut => 0x23
  | .rbStatus => 0x30
  | .rbWrite => 0x31
  | .rbCommit => 0x32
  | .rbAck => 0x33
  | .rbCursors => 0x34
  | .tcSetPeriod => 0x40
  | .tcEnable => 0x41
  | .tcReadPeriod => 0x42
  | .dacRead => 0x43

/-- Every opcode, in the table's order. -/
def Opcode.all : List Opcode :=
  [.nop, .glideInit, .glideUpdate, .glideRead, .glideStatus, .lfoInit, .lfoUpdate, .lfoPhase, .lfoOut,
   .rbStatus, .rbWrite, .rbCommit, .rbAck, .rbCursors, .tcSetPeriod, .tcEnable, .tcReadPeriod, .dacRead]

/-- The opcode with this OPC value, if it is assigned (R73); 238 values are not (R75). -/
def Opcode.ofCode? (opc : BitVec 8) : Option Opcode := Opcode.all.find? (·.code == opc)

/-- The seven command formats (R71). -/
inductive Format where
  | f0
  | fc
  | fcr
  | flu
  | fix
  | fd
  | fe
  deriving DecidableEq, Repr

/-- The format of each opcode (R73). -/
def Opcode.format : Opcode → Format
  | .nop => .f0
  | .glideInit => .fcr
  | .glideUpdate => .fc
  | .glideRead => .fc
  | .glideStatus => .fc
  | .lfoInit => .fcr
  | .lfoUpdate => .flu
  | .lfoPhase => .fc
  | .lfoOut => .fc
  | .rbStatus => .f0
  | .rbWrite => .fix
  | .rbCommit => .f0
  | .rbAck => .f0
  | .rbCursors => .f0
  | .tcSetPeriod => .fd
  | .tcEnable => .fe
  | .tcReadPeriod => .f0
  | .dacRead => .f0

/-- The bits the format marks `0` in R71 are 0 in this word. -/
def Format.zerosOk (cmd : Word) : Format → Bool
  | .f0 => cmd.extractLsb' 0 24 == 0
  | .fc => cmd.extractLsb' 0 20 == 0
  | .fcr => cmd.extractLsb' 7 13 == 0
  | .flu => cmd.extractLsb' 12 8 == 0 && !cmd.getLsbD 7
  | .fix => cmd.extractLsb' 16 8 == 0
  | .fd => cmd.extractLsb' 0 24 == 0
  | .fe => cmd.extractLsb' 1 23 == 0

/-- The shape codes of R98. -/
def Shape.code : Shape → BitVec 3
  | .triangle => 0
  | .saw => 1
  | .square => 2
  | .sine => 3
  | .ramp => 4
  | .random => 5

/-- The shape with this code; 6 and 7 are reserved (R98). -/
def Shape.ofCode? (code : BitVec 3) : Option Shape :=
  [Shape.triangle, .saw, .square, .sine, .ramp, .random].find? (·.code == code)

/-! ## Decoding -/

/-- The command of an opcode, with the operands its format assembles (R72). LFO_UPDATE's reserved shapes are the last
check of R74. -/
def Opcode.command (cmd data : Word) : Opcode → Except IllegalCause Instr
  | .nop => .ok .nop
  | .glideInit => .ok (.glideInit (chField cmd) (rateField cmd) data)
  | .glideUpdate => .ok (.glideUpdate (chField cmd))
  | .glideRead => .ok (.glideRead (chField cmd))
  | .glideStatus => .ok (.glideStatus (chField cmd))
  | .lfoInit => .ok (.lfoInit (chField cmd) (rateField cmd) data)
  | .lfoUpdate =>
    match Shape.ofCode? (shapeField cmd) with
    | some shape => .ok (.lfoUpdate (chField cmd) (rateField cmd) shape (absField cmd))
    | none => .error .shapeReserved
  | .lfoPhase => .ok (.lfoPhase (chField cmd))
  | .lfoOut => .ok (.lfoOut (chField cmd))
  | .rbStatus => .ok .rbStatus
  | .rbWrite => .ok (.rbWrite (indexField cmd) data)
  | .rbCommit => .ok .rbCommit
  | .rbAck => .ok .rbAck
  | .rbCursors => .ok .rbCursors
  | .tcSetPeriod => .ok (.tcSetPeriod data)
  | .tcEnable => .ok (.tcEnable (enField cmd))
  | .tcReadPeriod => .ok .tcReadPeriod
  | .dacRead => .ok .dacRead

/-- Decode a transaction: R74's checks in its order. Total on every pair of words; a word that is no command is rejected
with the cause of its ILLEGAL response. -/
def decode (cmd data : Word) : Except IllegalCause Instr :=
  match Opcode.ofCode? (opcField cmd) with
  | none => .error .opcodeUnassigned
  | some op => if op.format.zerosOk cmd then op.command cmd data else .error .mustBeZeroSet

/-- The CMD word of an instruction's bits: bits 31..0, the first word of the transaction (R67; log entry 13). -/
def cmdOfBits (bits : Nat) : Word := BitVec.ofNat 32 bits

/-- The DATA word of an instruction's bits: bits 63..32, the second word of the transaction (R67; log entry 13). -/
def dataOfBits (bits : Nat) : Word := BitVec.ofNat 32 (bits / 2 ^ 32)

/-- The command read from the instruction whose low `nbits` bits are those of `w` and whose bits above are 0. -/
def decodeTableWord (nbits w : Nat) : Option Instr :=
  match decode (cmdOfBits (w % 2 ^ nbits)) (dataOfBits (w % 2 ^ nbits)) with
  | .ok i => some i
  | .error _ => none

/-! ## Encoding -/

/-- A CMD word from its three fields (R69). -/
def cmdWord (op : Opcode) (ch : ChannelNo) (imm : BitVec 20) : Word := op.code ++ ch ++ imm

/-- IMM of format FCR (R71). -/
def immRate (rate : Rate) : BitVec 20 := 0#13 ++ rate

/-- IMM of format FLU (R71). -/
def immShape (rate : Rate) (shape : Shape) (abs : Bool) : BitVec 20 :=
  0#8 ++ BitVec.ofBool abs ++ shape.code ++ 0#1 ++ rate

/-- IMM of format FIX (R71). -/
def immIndex (index : BitVec 16) : BitVec 20 := 0#4 ++ index

/-- IMM of format FE (R71). -/
def immEnable (en : Bool) : BitVec 20 := 0#19 ++ BitVec.ofBool en

/-- The transaction (CMD, DATA) of a command; DATA is 0 where the command ignores it (R68). -/
def encode : Instr → Word × Word
  | .nop => (cmdWord .nop 0 0, 0)
  | .glideInit ch rate target => (cmdWord .glideInit ch (immRate rate), target)
  | .glideUpdate ch => (cmdWord .glideUpdate ch 0, 0)
  | .glideRead ch => (cmdWord .glideRead ch 0, 0)
  | .glideStatus ch => (cmdWord .glideStatus ch 0, 0)
  | .lfoInit ch rate startPhase => (cmdWord .lfoInit ch (immRate rate), startPhase)
  | .lfoUpdate ch rate shape abs => (cmdWord .lfoUpdate ch (immShape rate shape abs), 0)
  | .lfoPhase ch => (cmdWord .lfoPhase ch 0, 0)
  | .lfoOut ch => (cmdWord .lfoOut ch 0, 0)
  | .rbStatus => (cmdWord .rbStatus 0 0, 0)
  | .rbWrite index sample => (cmdWord .rbWrite 0 (immIndex index), sample)
  | .rbCommit => (cmdWord .rbCommit 0 0, 0)
  | .rbAck => (cmdWord .rbAck 0 0, 0)
  | .rbCursors => (cmdWord .rbCursors 0 0, 0)
  | .tcSetPeriod period => (cmdWord .tcSetPeriod 0 0, period)
  | .tcEnable en => (cmdWord .tcEnable 0 (immEnable en), 0)
  | .tcReadPeriod => (cmdWord .tcReadPeriod 0 0, 0)
  | .dacRead => (cmdWord .dacRead 0 0, 0)

/-- The commands whose DATA word is an operand (R73's column "DATA used"). -/
def Instr.usesData : Instr → Bool
  | .nop => false
  | .glideInit _ _ _ => true
  | .glideUpdate _ => false
  | .glideRead _ => false
  | .glideStatus _ => false
  | .lfoInit _ _ _ => true
  | .lfoUpdate _ _ _ _ => false
  | .lfoPhase _ => false
  | .lfoOut _ => false
  | .rbStatus => false
  | .rbWrite _ _ => true
  | .rbCommit => false
  | .rbAck => false
  | .rbCursors => false
  | .tcSetPeriod _ => true
  | .tcEnable _ => false
  | .tcReadPeriod => false
  | .dacRead => false

end Sys2Proof
end

