-- ==== Sys2Proof/Machine/State.lean ====
section
/-! DEFINITION. The block's state (10_state.md), as plain data, and its reset values (R140). -/

namespace Sys2Proof.Machine

/-- Response status codes (R70). Code 3 is reserved and never returned, so it is no constructor. -/
inductive Status where
  /-- 0: the command ran. -/
  | ok
  /-- 1: a legal encoding that an operand's value or the block's state does not allow. -/
  | refused
  /-- 2: the CMD word is not a legal encoding. -/
  | illegal
  deriving DecidableEq, Repr

/-- A response: STATUS and RDATA (R67, R70). -/
structure Response where
  status : Status
  rdata : Word
  deriving DecidableEq, Repr

/-- One atomic step of one of the two agents (R7, R56): a HOST transaction (R67) or a tick (R115). -/
inductive AgentStep where
  | host (cmd data : Word)
  | tick
  deriving DecidableEq, Repr

/-- One LFO channel (R37 to R41). -/
structure Lfo where
  /-- Running phase, uQ1.31, in [0, 2^31] (R37). -/
  phase : Word
  /-- Phase increment, uQ1.31, in [0, 2^31 - 1] (R38). -/
  inc : Word
  /-- Pending-reset flag (R39). -/
  pending : Bool
  /-- Phase-on-reset value, uQ1.31, in [0, 2^31 - 1] (R40). -/
  resetPhase : Word
  /-- Last output, sQ1.15 (R41). -/
  out : Channel
  deriving DecidableEq, Repr

/-- One glide channel (R42 to R44). -/
structure Glide where
  /-- Current value, sQ16.16 (R42). -/
  current : Word
  /-- Target value, sQ16.16 (R43). -/
  target : Word
  /-- Signed per-tick increment in Q16.16 units, 33 bits; 0 is idle (R44, R45). -/
  inc : BitVec 33
  deriving DecidableEq, Repr

/-- The sample store: the written words with their sample addresses (R33, R51), addresses strictly rising. An address
that is not listed is unwritten (R57). The cell is a whole 32-bit sample word, the smallest thing the spec addresses
(R50, R53; log entry 7). -/
abbrev Memory := List (Nat × Word)

/-- The canonical form: the listed addresses strictly rise. -/
def Memory.wf (m : Memory) : Bool := decide (m.Pairwise (fun x y => x.1 < y.1))

/-- The state of the block, with the model's own four fields `cfg`, `response`, `schedule` and `draws`. -/
structure State where
  /-- The parameters (R8 to R18): arguments of the model, carried along; no step writes them (R27; log entry 1). -/
  cfg : Config
  /-- Write cursor rb_w, in [0, 2*N_B) (R28). -/
  rbW : BitVec 8
  /-- Read cursor rb_r, in [0, 2*N_B) (R29). -/
  rbR : BitVec 8
  /-- Read position rb_pos, in [0, S) (R30). -/
  rbPos : BitVec 16
  /-- Freed-block flag rb_freed (R31). -/
  rbFreed : Bool
  /-- Sample store (R33). -/
  store : Memory
  /-- Tick enable tc_en (R34). -/
  tcEn : Bool
  /-- Tick period tc_period, 0 = not configured (R35). -/
  tcPeriod : Word
  /-- D/A output register, left channel (R36). -/
  dacL : Channel
  /-- D/A output register, right channel (R36). -/
  dacR : Channel
  /-- The LFO channels 0 to 2 (R11, R37 to R41). -/
  lfo : Vector Lfo 3
  /-- The glide channels 0 to NUM_GLIDE - 1 (R12, R42 to R44). -/
  glide : List Glide
  /-- The response to the last transaction; none before the first (R67; log entry 5). -/
  response : Option Response
  /-- The agents' steps still to come, in their one total order (R56, R60, R118, R152; log entry 2). -/
  schedule : List AgentStep
  /-- How many draws the run has taken (R19, R57; log entry 6). -/
  draws : Nat
  deriving DecidableEq, Repr

/-- The machine's faults. The spec has none (R127). -/
inductive Fault where
  /-- Raised by a TICK whose read address is not an address of the store: only in a state outside R49's invariants, which
  no run reaches. Safe (log entry 9). -/
  | storeAddressAbsent
  deriving DecidableEq, Repr

/-- The machine's refusals. REFUSED and ILLEGAL are no refusals of the model: they are responses (R70). -/
inductive Refusal where
  /-- Raised by an arm of `exec` whose instruction has no meaning yet. Safe. No arm does so. -/
  | notModelled (mnemonic : String)
  deriving DecidableEq, Repr

/-- An LFO channel at reset (R140). -/
def Lfo.atReset : Lfo := { phase := 0, inc := 0, pending := false, resetPhase := 0, out := 0 }

/-- A glide channel at reset (R140). -/
def Glide.atReset : Glide := { current := 0, target := 0, inc := 0 }

/-- The block right after reset (R140), for given parameters. -/
def State.resetWith (cfg : Config) : State where
  cfg := cfg
  rbW := 0
  rbR := 0
  rbPos := 0
  rbFreed := false
  store := []
  tcEn := false
  tcPeriod := 0
  dacL := 0
  dacR := 0
  lfo := Vector.replicate 3 Lfo.atReset
  glide := List.replicate cfg.numGlide Glide.atReset
  response := none
  schedule := []
  draws := 0

/-- The block right after reset (R140), with the parameters fixed before reset (R18, R143), which are open. -/
def State.reset : State := State.resetWith Config.chip

end Sys2Proof.Machine
end

