-- ==== Sys2Proof/Machine/Operands.lean ====
section
/-! DEFINITION. How operands are read: sample words, table lookups and sample addresses (R51, R52, R72, R15, R16). -/

namespace Sys2Proof.Machine

/-- The left channel of a sample word: bits [31:16] (R52). -/
def sampleLeft (w : Word) : Channel := w.extractLsb' 16 16

/-- The right channel of a sample word: bits [15:0] (R52). -/
def sampleRight (w : Word) : Channel := w.extractLsb' 0 16

/-- A sample word from its channels, L high and R low (R52). -/
def sampleWord (l r : Channel) : Word := l ++ r

/-- GLIDE_COEF[rate], the fraction entry/65536 (R15). -/
def glideCoefAt (cfg : Config) (rate : Rate) : Nat := (cfg.glideCoef[rate.toNat]'rate.isLt).val

/-- LFO_INC[rate], in the 32-bit phase format (R16, R38). -/
def lfoIncAt (cfg : Config) (rate : Rate) : Word := (cfg.lfoInc[rate.toNat]'rate.isLt).setWidth 32

/-- SINE[i] as an integer; the waveform reads i in [0, 256] only (R17, R100). -/
def sineAt (cfg : Config) (i : Nat) : Int := ((cfg.sine[i]?).getD 0).toInt

/-- The sample address of sample i in block b (R51). -/
def sampleAddress (cfg : Config) (b i : Nat) : Nat := b * cfg.blockSize + i

/-- The addresses the store has: [0, N_B*S) (R51, R58). -/
def storeSize (cfg : Config) : Nat := cfg.numBlocks * cfg.blockSize

/-- The default SINE entries for the first quarter, round(32767 * sin(2*pi*i/256)) for i = 0 to 64, halves away from
zero (R17). PRESUMED (log entry 17): the values are computed from the spec's formula. -/
def sineQuarter : List Nat :=
  [0, 804, 1608, 2410, 3212, 4011, 4808, 5602, 6393, 7179, 7962, 8739, 9512]
  ++ [10278, 11039, 11793, 12539, 13279, 14010, 14732, 15446, 16151, 16846, 17530, 18204, 18868]
  ++ [19519, 20159, 20787, 21403, 22005, 22594, 23170, 23731, 24279, 24811, 25329, 25832, 26319]
  ++ [26790, 27245, 27683, 28105, 28510, 28898, 29268, 29621, 29956, 30273, 30571, 30852, 31113]
  ++ [31356, 31580, 31785, 31971, 32137, 32285, 32412, 32521, 32609, 32678, 32728, 32757, 32767]

/-- The default SINE entry i, by the symmetry of the sine (R17). -/
def sineDefaultAt (i : Nat) : Int :=
  if i ≤ 64 then (sineQuarter.getD i 0 : Nat)
  else if i ≤ 128 then (sineQuarter.getD (128 - i) 0 : Nat)
  else if i ≤ 192 then -(sineQuarter.getD (i - 128) 0 : Nat)
  else -(sineQuarter.getD (256 - i) 0 : Nat)

/-- The spec's default SINE table (R17); no configuration is obliged to use it. -/
def sineDefault : Vector Channel 257 :=
  ⟨((List.range 257).map fun i => BitVec.ofInt 16 (sineDefaultAt i)).toArray, by simp⟩

end Sys2Proof.Machine
end

