-- ==== Sys2Proof/Machine/Flags.lean ====
section
/-! DEFINITION. The derived quantities and status words (R32, R45, R47, R107, R108, R112, R123, R145). -/

namespace Sys2Proof.Machine

/-- The occupancy for two cursors of a ring of n blocks: (w - r) mod 2n, on integers (R107). -/
def cursorOcc (n w r : Nat) : Nat := (((w : Int) - (r : Int)) % (2 * (n : Int))).toNat

/-- occ: blocks committed and not yet fully consumed (R107). -/
def State.occ (s : State) : Nat := cursorOcc s.cfg.numBlocks s.rbW.toNat s.rbR.toNat

/-- readable: blocks the consumer owns (R107). -/
def State.readable (s : State) : Nat := s.occ

/-- writable: blocks the producer owns (R107). -/
def State.writable (s : State) : Nat := s.cfg.numBlocks - s.occ

/-- wblk: the block the producer fills (R107). -/
def State.wblk (s : State) : Nat := s.rbW.toNat % s.cfg.numBlocks

/-- rblk: the block the consumer reads (R107). -/
def State.rblk (s : State) : Nat := s.rbR.toNat % s.cfg.numBlocks

/-- The block `b` is readable: it is (rb_r + j) mod N_B for some j below occ (R61). -/
def State.isReadableBlock (s : State) (b : Nat) : Bool :=
  (List.range s.occ).any fun j => (s.rbR.toNat + j) % s.cfg.numBlocks == b

/-- IRQ_FREED, always equal to rb_freed (R32, R131). -/
def State.irqFreed (s : State) : Bool := s.rbFreed

/-- The RB status word: [7:0] writable, [15:8] readable, [16] rb_freed, [17] tc_en, [31:18] 0 (R47, R108). -/
def State.statusWord (s : State) : Word :=
  0#14 ++ BitVec.ofBool s.tcEn ++ BitVec.ofBool s.rbFreed ++ BitVec.ofNat 8 s.readable ++ BitVec.ofNat 8 s.writable

/-- The RB cursor word: [7:0] rb_w, [15:8] rb_r, [31:16] rb_pos (R47, R112). -/
def State.cursorWord (s : State) : Word := s.rbPos ++ s.rbR ++ s.rbW

/-- The DAC word: [31:16] dac_l, [15:0] dac_r (R47, R123). -/
def State.dacWord (s : State) : Word := sampleWord s.dacL s.dacR

/-- A glide channel is active when its increment is not 0 (R45). -/
def Glide.active (g : Glide) : Bool := g.inc != 0

/-- The glide status word: [0] active, [31:1] 0 (R47, R95). -/
def Glide.statusWord (g : Glide) : Word := (BitVec.ofBool g.active).setWidth 32

/-- The LFO output as the port reads it: sext_16(out) as 32 bits (R47, R104, R106). -/
def Lfo.outWord (l : Lfo) : Word := l.out.signExtend 32

/-- The ticks left before an underrun, occ*S - rb_pos (R145). -/
def State.ticksToUnderrun (s : State) : Nat := s.occ * s.cfg.blockSize - s.rbPos.toNat

/-- The STATUS code of a response (R70). -/
def Status.code : Status → BitVec 2
  | .ok => 0
  | .refused => 1
  | .illegal => 2

end Sys2Proof.Machine
end

