-- ==== Sys2Proof/Machine/Ops.lean ====
section
/-! DEFINITION. The named operations over the response, the channels, the cursors, the sample store and the draws.
The block has no exceptions, so there is no exception entry and no return (R127): a failure is a response. -/

namespace Sys2Proof.Machine

/-! ## Responses (R70) -/

/-- End a command with a response (R22, R70). -/
def State.respond (s : State) (status : Status) (rdata : Word) : State :=
  { s with response := some { status := status, rdata := rdata } }

/-- (OK, rdata). -/
def State.respondOk (s : State) (rdata : Word) : State := s.respond .ok rdata

/-- (REFUSED, 0), nothing changed (R70, R128). -/
def State.refuse (s : State) : State := s.respond .refused 0

/-- (ILLEGAL, 0), nothing changed (R70, R74). -/
def State.respondIllegal (s : State) : State := s.respond .illegal 0

/-! ## Channels -/

/-- Run `k` on the glide channel a command names; REFUSED if it does not exist (R128). A channel list shorter than
NUM_GLIDE, which no run reaches, refuses too (log entry 15). -/
def State.withGlide (s : State) (ch : ChannelNo) (k : Glide → State) : State :=
  if ch.toNat < s.cfg.numGlide then
    match s.glide[ch.toNat]? with
    | some g => k g
    | none => s.refuse
  else s.refuse

/-- Run `k` on the LFO channel a command names; REFUSED if it does not exist (R11, R128). -/
def State.withLfo (s : State) (ch : ChannelNo) (k : Lfo → State) : State :=
  if h : ch.toNat < 3 then k (s.lfo[ch.toNat]'h) else s.refuse

/-- Write a glide channel. -/
def State.setGlide (s : State) (ch : ChannelNo) (g : Glide) : State :=
  { s with glide := s.glide.set ch.toNat g }

/-- Write an LFO channel. -/
def State.setLfo (s : State) (ch : ChannelNo) (l : Lfo) : State :=
  { s with lfo := s.lfo.setIfInBounds ch.toNat l }

/-! ## Draws (R19, R57) -/

/-- Record that n draws were taken, so that the next draw is a fresh one. -/
def State.takeDraws (s : State) (n : Nat) : State := { s with draws := s.draws + n }

/-! ## The sample store (R51, R57) -/

/-- The written word at a sample address, or none if the word is unwritten (R57). -/
def Memory.read? : Memory → Nat → Option Word
  | [], _ => none
  | (k, v) :: rest, a => if k = a then some v else Memory.read? rest a

/-- Write the word at a sample address, keeping the addresses in rising order (R51). -/
def Memory.write : Memory → Nat → Word → Memory
  | [], a, v => [(a, v)]
  | (k, w) :: rest, a, v =>
    if a < k then (a, v) :: (k, w) :: rest
    else if a = k then (a, v) :: rest
    else (k, w) :: Memory.write rest a v

/-- MemWrite(a, 4, v) (R51). -/
def State.writeSample (s : State) (a : Nat) (v : Word) : State := { s with store := s.store.write a v }

/-- MemRead(a, 4) (R51): the word last written there, or a draw if the word is unwritten (R57), with the state after the
read. An address the store does not have is a fault (log entry 9). -/
def State.readSample (s : State) (a : Nat) : Except Fault (Word × State) :=
  if a < storeSize s.cfg then
    match s.store.read? a with
    | some v => .ok (v, s)
    | none => .ok (Config.freeSample s.draws, s.takeDraws 1)
  else .error .storeAddressAbsent

/-! ## Cursors, flag and registers -/

/-- The cursor after c in a ring of n blocks: (c + 1) mod 2n (R110, R115). -/
def cursorNext (n : Nat) (c : BitVec 8) : BitVec 8 := BitVec.ofNat 8 ((c.toNat + 1) % (2 * n))

/-- rb_w advances by one block (R110). -/
def State.advanceW (s : State) : State := { s with rbW := cursorNext s.cfg.numBlocks s.rbW }

/-- The read position is at the block's last sample: rb_pos = S - 1 (R115). -/
def State.atBlockEnd (s : State) : Bool := decide (s.rbPos.toNat + 1 = s.cfg.blockSize)

/-- The consumer's position advances past the sample just read; after the block's last sample the block is freed: rb_pos
goes back to 0, rb_r advances and rb_freed is set (R115). -/
def State.advanceRead (s : State) : State :=
  { s with
    rbPos := if s.atBlockEnd then 0 else s.rbPos + 1
    rbR := if s.atBlockEnd then cursorNext s.cfg.numBlocks s.rbR else s.rbR
    rbFreed := if s.atBlockEnd then true else s.rbFreed }

/-- rb_freed is cleared (R111). -/
def State.clearFreed (s : State) : State := { s with rbFreed := false }

/-- The D/A output registers take a sample word (R115). -/
def State.setDac (s : State) (v : Word) : State := { s with dacL := sampleLeft v, dacR := sampleRight v }

/-- tc_period is written (R120). -/
def State.setPeriod (s : State) (period : Word) : State := { s with tcPeriod := period }

/-- tc_en is written (R121). -/
def State.setEnable (s : State) (en : Bool) : State := { s with tcEn := en }

end Sys2Proof.Machine
end

