-- ==== Sys2Proof/Machine/Command.lean ====
section
/-! DEFINITION. The one command that belongs to no unit: NOP (R124). -/

namespace Sys2Proof.Machine

/-- NOP (R124). -/
def execNop (s : State) : Host.Outcome State Fault Refusal := .next (s.respondOk 0)

end Sys2Proof.Machine
end

