-- ==== Sys2Proof/Machine/Glide.lean ====
section
/-! DEFINITION. The glide commands (R92 to R95). -/

namespace Sys2Proof.Machine

/-- The increment of a glide over the distance delta: trunc(delta * coef / 65536), forced to sign(delta) where that is
0 (R92). -/
def glideIncrement (delta : Int) (coef : Nat) : Int :=
  if (delta * coef).tdiv 65536 = 0 then delta.sign else (delta * coef).tdiv 65536

/-- The channel snapped onto a target, idle (R92). -/
def Glide.snapTo (target : Word) : Glide := { current := target, target := target, inc := 0 }

/-- The exact distance from the channel's current value to a target (R92). -/
def Glide.distanceTo (g : Glide) (target : Word) : Int := target.toInt - g.current.toInt

/-- The channel armed toward a target (R92's else branch). -/
def Glide.armed (g : Glide) (target : Word) (coef : Nat) : Glide :=
  { g with target := target, inc := BitVec.ofInt 33 (glideIncrement (g.distanceTo target) coef) }

/-- The channel after GLIDE_INIT (R92). -/
def Glide.init (g : Glide) (rate : Rate) (target : Word) (coef : Nat) : Glide :=
  if rate = 0 ∨ target = g.current then Glide.snapTo target else g.armed target coef

/-- The exact next value current + inc (R93). -/
def Glide.nextValue (g : Glide) : Int := g.current.toInt + g.inc.toInt

/-- The next value reaches or crosses the target, in the increment's direction (R93). -/
def Glide.arrives (g : Glide) : Bool :=
  decide ((0 < g.inc.toInt ∧ g.target.toInt ≤ g.nextValue) ∨ (g.inc.toInt < 0 ∧ g.nextValue ≤ g.target.toInt))

/-- The channel after GLIDE_UPDATE (R93). -/
def Glide.update (g : Glide) : Glide :=
  if g.inc = 0 then g
  else if g.arrives then { g with current := g.target, inc := 0 }
  else { g with current := BitVec.ofInt 32 g.nextValue }

/-- GLIDE_INIT (R92). -/
def execGlideInit (ch : ChannelNo) (rate : Rate) (target : Word) (s : State) : Host.Outcome State Fault Refusal :=
  .next (s.withGlide ch fun g =>
    (s.setGlide ch (g.init rate target (glideCoefAt s.cfg rate))).respondOk
      (g.init rate target (glideCoefAt s.cfg rate)).current)

/-- GLIDE_UPDATE (R93). -/
def execGlideUpdate (ch : ChannelNo) (s : State) : Host.Outcome State Fault Refusal :=
  .next (s.withGlide ch fun g => (s.setGlide ch g.update).respondOk g.update.current)

/-- GLIDE_READ (R94). -/
def execGlideRead (ch : ChannelNo) (s : State) : Host.Outcome State Fault Refusal :=
  .next (s.withGlide ch fun g => s.respondOk g.current)

/-- GLIDE_STATUS (R95). -/
def execGlideStatus (ch : ChannelNo) (s : State) : Host.Outcome State Fault Refusal :=
  .next (s.withGlide ch fun g => s.respondOk g.statusWord)

end Sys2Proof.Machine
end

