-- ==== Sys2Proof/Machine/Lfo.lean ====
section
/-! DEFINITION. The LFO shapes and commands (R98 to R106). -/

namespace Sys2Proof.Machine

/-- The phase value 1.0 in uQ1.31 (R37). -/
def phaseOne : Nat := 2 ^ 31

/-- advance(p, inc, shape): RAMP clamps at 1.0, every other shape wraps at 1.0 (R99). -/
def advance (p inc : Nat) (shape : Shape) : Nat :=
  if shape = .ramp then min (p + inc) phaseOne
  else if phaseOne ≤ p + inc then p + inc - phaseOne
  else p + inc

/-- TRIANGLE on the 16-bit phase v (R100). -/
def waveTriangle (v : Nat) : Int := if v < 32768 then 2 * v - 32768 else 98303 - 2 * v

/-- SAW on the 16-bit phase v (R100). -/
def waveSaw (v : Nat) : Int := v - 32768

/-- SQUARE on the 16-bit phase v (R100). -/
def waveSquare (v : Nat) : Int := if v < 32768 then 32767 else -32768

/-- SINE on the 16-bit phase v: linear interpolation with i = v >> 8, f = v mod 256 and the floor division (R100). -/
def waveSine (cfg : Config) (v : Nat) : Int :=
  sineAt cfg (v / 256) + ((sineAt cfg (v / 256 + 1) - sineAt cfg (v / 256)) * (v % 256 : Nat)) / 256

/-- RAMP on the 17-bit phase u, where 65536 is 1.0 (R100). -/
def waveRamp (u : Nat) : Int := (u * 32767 / 65536 : Nat)

/-- wave(shape, p), with u = p >> 15 and v = u mod 65536; `random` is the draw of the RANDOM shape (R100, R101). -/
def wave (cfg : Config) (shape : Shape) (p : Nat) (random : Channel) : Int :=
  match shape with
  | .triangle => waveTriangle (p / 2 ^ 15 % 65536)
  | .saw => waveSaw (p / 2 ^ 15 % 65536)
  | .square => waveSquare (p / 2 ^ 15 % 65536)
  | .sine => waveSine cfg (p / 2 ^ 15 % 65536)
  | .ramp => waveRamp (p / 2 ^ 15)
  | .random => random.toInt

/-- fold(y) = min(|y|, 32767) (R102). -/
def fold (y : Int) : Int := min (y.natAbs : Int) 32767

/-- The output value: the wave, folded when abs is 1 (R104). -/
def lfoOutput (cfg : Config) (shape : Shape) (abs : Bool) (p : Nat) (random : Channel) : Int :=
  if abs then fold (wave cfg shape p random) else wave cfg shape p random

/-- The phase after LFO_UPDATE: the pending reset's phase, or the advance by the new increment (R104). -/
def Lfo.nextPhase (l : Lfo) (inc : Word) (shape : Shape) : Word :=
  if l.pending then l.resetPhase else BitVec.ofNat 32 (advance l.phase.toNat inc.toNat shape)

/-- The channel after LFO_INIT (R103). -/
def Lfo.init (l : Lfo) (inc startPhase : Word) : Lfo :=
  { l with inc := inc, resetPhase := startPhase, pending := true }

/-- The channel after LFO_UPDATE (R104): the increment of the new rate, the reset or advance, then the output from the
new phase. -/
def Lfo.update (l : Lfo) (cfg : Config) (rate : Rate) (shape : Shape) (abs : Bool) (random : Channel) : Lfo :=
  { phase := l.nextPhase (lfoIncAt cfg rate) shape
    inc := lfoIncAt cfg rate
    pending := false
    resetPhase := l.resetPhase
    out := BitVec.ofInt 16 (lfoOutput cfg shape abs (l.nextPhase (lfoIncAt cfg rate) shape).toNat random) }

/-- How many draws an LFO_UPDATE of the shape takes: one for RANDOM, fresh at each update (R101). -/
def Shape.drawCount (shape : Shape) : Nat := if shape = .random then 1 else 0

/-- LFO_INIT (R103). -/
def execLfoInit (ch : ChannelNo) (rate : Rate) (startPhase : Word) (s : State) : Host.Outcome State Fault Refusal :=
  .next (s.withLfo ch fun l =>
    if 2 ^ 31 ≤ startPhase.toNat then s.refuse
    else (s.setLfo ch (l.init (lfoIncAt s.cfg rate) startPhase)).respondOk 0)

/-- LFO_UPDATE (R104). -/
def execLfoUpdate (ch : ChannelNo) (rate : Rate) (shape : Shape) (abs : Bool) (s : State) :
    Host.Outcome State Fault Refusal :=
  .next (s.withLfo ch fun l =>
    ((s.setLfo ch (l.update s.cfg rate shape abs (Config.freeRandom s.draws))).takeDraws
      (Shape.drawCount shape)).respondOk
        (l.update s.cfg rate shape abs (Config.freeRandom s.draws)).outWord)

/-- LFO_PHASE (R105). -/
def execLfoPhase (ch : ChannelNo) (s : State) : Host.Outcome State Fault Refusal :=
  .next (s.withLfo ch fun l => s.respondOk l.phase)

/-- LFO_OUT (R106). -/
def execLfoOut (ch : ChannelNo) (s : State) : Host.Outcome State Fault Refusal :=
  .next (s.withLfo ch fun l => s.respondOk l.outWord)

end Sys2Proof.Machine
end

