-- ==== Sys2Proof/Machine/Ring.lean ====
section
/-! DEFINITION. The ring buffer commands (R108 to R112) and the consumer step TICK (R115, R116). -/

namespace Sys2Proof.Machine

/-- RB_STATUS (R108). -/
def execRbStatus (s : State) : Host.Outcome State Fault Refusal := .next (s.respondOk s.statusWord)

/-- RB_WRITE (R109). Where it writes, wblk < N_B and index < S, so the address is one of the store's in every state. -/
def execRbWrite (index : BitVec 16) (sample : Word) (s : State) : Host.Outcome State Fault Refusal :=
  .next (if s.writable = 0 then s.refuse
    else if s.cfg.blockSize ≤ index.toNat then s.refuse
    else (s.writeSample (sampleAddress s.cfg s.wblk index.toNat) sample).respondOk 0)

/-- RB_COMMIT (R110). -/
def execRbCommit (s : State) : Host.Outcome State Fault Refusal :=
  .next (if s.writable = 0 then s.refuse else s.advanceW.respondOk s.advanceW.statusWord)

/-- RB_ACK (R111): the status word is read before the clear. -/
def execRbAck (s : State) : Host.Outcome State Fault Refusal := .next (s.clearFreed.respondOk s.statusWord)

/-- RB_CURSORS (R112). -/
def execRbCursors (s : State) : Host.Outcome State Fault Refusal := .next (s.respondOk s.cursorWord)

/-- A tick that finds a readable block: one sample goes to the D/A registers and the position advances (R115). -/
def State.consume (s : State) : Host.Outcome State Fault Refusal :=
  match s.readSample (sampleAddress s.cfg s.rblk s.rbPos.toNat) with
  | .ok (v, t) => .next (t.setDac v).advanceRead
  | .error f => .fault f

/-- The TICK step (R115): enabled exactly when tc_en = 1; an underrun changes nothing (R116). Where the tick is not
enabled no tick happens (log entry 4). -/
def tickStep (s : State) : Host.Outcome State Fault Refusal :=
  if s.tcEn then
    if 1 ≤ s.occ then s.consume else .next s
  else .next s

end Sys2Proof.Machine
end

