-- ==== Sys2Proof/Machine/Timing.lean ====
section
/-! DEFINITION. The timing control and D/A commands (R120 to R123), and the informative constants (R118, R119). -/

namespace Sys2Proof.Machine

/-- TC_SET_PERIOD (R120). -/
def execTcSetPeriod (period : Word) (s : State) : Host.Outcome State Fault Refusal :=
  .next (if period = 0 then s.refuse else (s.setPeriod period).respondOk 0)

/-- TC_ENABLE (R121). -/
def execTcEnable (en : Bool) (s : State) : Host.Outcome State Fault Refusal :=
  .next (if en = true ∧ s.tcPeriod = 0 then s.refuse else (s.setEnable en).respondOk 0)

/-- TC_READ_PERIOD (R122). -/
def execTcReadPeriod (s : State) : Host.Outcome State Fault Refusal := .next (s.respondOk s.tcPeriod)

/-- DAC_READ (R123). -/
def execDacRead (s : State) : Host.Outcome State Fault Refusal := .next (s.respondOk s.dacWord)

/-- SAMPLE_RATE_HZ = CLK_IN_HZ / tc_period, an exact quotient (R118). Informative: no step reads it. With no period
configured there is no rate (log entry 16). -/
def State.sampleRateHz (s : State) : Option Rat :=
  if s.tcPeriod = 0 then none else some ((s.cfg.clkInHz : Rat) / (s.tcPeriod.toNat : Rat))

/-- CYCLES_PER_BLOCK = ceil(CHIP_CLOCK_HZ * S / SAMPLE_RATE_HZ), rounded once (R119). Informative: no step reads it. -/
def State.cyclesPerBlock (s : State) : Option Int :=
  s.sampleRateHz.map fun rate => ((s.cfg.chipClockHz * s.cfg.blockSize : Nat) / rate : Rat).ceil

end Sys2Proof.Machine
end

