-- ==== Sys2Proof/Machine/Dispatch.lean ====
section
/-! DEFINITION. The meaning of each command, one arm per constructor (R73). -/

namespace Sys2Proof.Machine

def exec (i : Instr) (s : State) : Host.Outcome State Fault Refusal :=
  match i with
  | .nop => Sys2Proof.Machine.execNop s
  | .glideInit ch rate target => Sys2Proof.Machine.execGlideInit ch rate target s
  | .glideUpdate ch => Sys2Proof.Machine.execGlideUpdate ch s
  | .glideRead ch => Sys2Proof.Machine.execGlideRead ch s
  | .glideStatus ch => Sys2Proof.Machine.execGlideStatus ch s
  | .lfoInit ch rate startPhase => Sys2Proof.Machine.execLfoInit ch rate startPhase s
  | .lfoUpdate ch rate shape abs => Sys2Proof.Machine.execLfoUpdate ch rate shape abs s
  | .lfoPhase ch => Sys2Proof.Machine.execLfoPhase ch s
  | .lfoOut ch => Sys2Proof.Machine.execLfoOut ch s
  | .rbStatus => Sys2Proof.Machine.execRbStatus s
  | .rbWrite index sample => Sys2Proof.Machine.execRbWrite index sample s
  | .rbCommit => Sys2Proof.Machine.execRbCommit s
  | .rbAck => Sys2Proof.Machine.execRbAck s
  | .rbCursors => Sys2Proof.Machine.execRbCursors s
  | .tcSetPeriod period => Sys2Proof.Machine.execTcSetPeriod period s
  | .tcEnable en => Sys2Proof.Machine.execTcEnable en s
  | .tcReadPeriod => Sys2Proof.Machine.execTcReadPeriod s
  | .dacRead => Sys2Proof.Machine.execDacRead s

end Sys2Proof.Machine
end

