-- ==== Sys2Proof/Machine/Port.lean ====
section
/-! DEFINITION. One transaction on the command port (R67, R74), and the next step of either agent (R7, R56, R60). -/

namespace Sys2Proof.Machine

/-- A HOST transaction, one atomic step: decode, then run the command; an illegal encoding is answered with ILLEGAL and
changes nothing (R67, R74, R75). -/
def transact (cmd data : Word) (s : State) : Host.Outcome State Fault Refusal :=
  match decode cmd data with
  | .ok i => exec i s
  | .error _ => .next s.respondIllegal

/-- Take the agents' next step off the schedule. -/
def State.dropStep (s : State) : State := { s with schedule := s.schedule.tail }

/-- The next step in the agents' total order (R60): HOST's transaction or a tick. With no step left nothing happens
(log entry 3). Where a run ends is in Run.lean (R152). -/
def runNext (s : State) : Host.Outcome State Fault Refusal :=
  match s.schedule with
  | [] => .next s
  | .host cmd data :: _ => transact cmd data s.dropStep
  | .tick :: _ => tickStep s.dropStep

/-- Put a transaction in front of the schedule, so that it is HOST's next step (log entry 12). -/
def State.present (s : State) (cmd data : Word) : State := { s with schedule := .host cmd data :: s.schedule }

/-- The bytes of a port word on a byte bus, lane by lane, under PORT_BYTE_ORDER (R53). No step reads it. -/
def portWordBytes (cfg : Config) (w : Word) : Vector (BitVec 8) 4 :=
  cfg.portByteOrder.map fun byte => w.extractLsb' (8 * byte.val) 8

end Sys2Proof.Machine
end

