-- ==== Sys2Proof/Machine/Step.lean ====
section
/-! DEFINITION. The step: the next atomic step of HOST or TICK (R7, R56). -/

namespace Sys2Proof.Machine

/-- One step of the block: the next step in the agents' order. -/
def step (s : State) : Host.Outcome State Fault Refusal := runNext s

/-- The state whose next step is the transaction with these bits: CMD in bits 31..0, DATA in bits 63..32, bits from
`nbits` up zero (log entries 12, 13). -/
def State.withFetchWord (s : State) (nbits w : Nat) : State :=
  s.present (cmdOfBits (w % 2 ^ nbits)) (dataOfBits (w % 2 ^ nbits))

end Sys2Proof.Machine
end

