-- ==== Sys2Proof/Machine/FixedPoint.lean ====
section
/-! DEFINITION. Fixed-point types and their primitives on exact integers (R78 to R88). No command runs a primitive on its
own; the glide and LFO rules give their arithmetic directly (40_fixed_point.md, R90). -/

namespace Sys2Proof.Machine

/-- FX(I, F, sgn, sat) (R78); `sat` is not free (R80). -/
structure FxType where
  integralBits : Nat
  fractionalBits : Nat
  signed : Bool
  deriving DecidableEq, Repr

/-- T = I + F (R78). -/
def FxType.total (t : FxType) : Nat := t.integralBits + t.fractionalBits

/-- 1 <= T <= 32 (R78). -/
def FxType.wellFormed (t : FxType) : Bool := decide (1 ≤ t.total ∧ t.total ≤ 32)

/-- sat holds exactly when T < 32 (R80). -/
def FxType.saturates (t : FxType) : Bool := decide (t.total < 32)

/-- The least raw value (R78). -/
def FxType.minRaw (t : FxType) : Int := if t.signed then -(2 ^ (t.total - 1) : Int) else 0

/-- The greatest raw value (R78). -/
def FxType.maxRaw (t : FxType) : Int := if t.signed then 2 ^ (t.total - 1) - 1 else 2 ^ t.total - 1

/-- The integer is a raw value of the type (R78). -/
def FxType.holds (t : FxType) (raw : Int) : Bool := decide (t.minRaw ≤ raw ∧ raw ≤ t.maxRaw)

/-- clamp(v, lo, hi) (R21). -/
def clampInt (v lo hi : Int) : Int := min (max v lo) hi

/-- wrap_T (R79). -/
def FxType.wrap (t : FxType) (v : Int) : Int := (v - t.minRaw) % (2 ^ t.total : Int) + t.minRaw

/-- norm: clamp where the type saturates, wrap otherwise (R79). -/
def FxType.norm (t : FxType) (v : Int) : Int :=
  if t.saturates then clampInt v t.minRaw t.maxRaw else t.wrap v

/-- from_int(n) (R82). -/
def FxType.fromInt (t : FxType) (n : Int) : Int := t.norm (n * 2 ^ t.fractionalBits)

/-- integral(x) = floor(raw / 2^F) (R83). -/
def FxType.integral (t : FxType) (raw : Int) : Int := raw / (2 ^ t.fractionalBits : Int)

/-- fractional(x) = raw mod 2^F (R84). -/
def FxType.fractional (t : FxType) (raw : Int) : Int := raw % (2 ^ t.fractionalBits : Int)

/-- add_integral(x, d) (R86). -/
def FxType.addIntegral (t : FxType) (raw d : Int) : Int := t.norm (raw + d * 2 ^ t.fractionalBits)

/-- add_fractional(x, d) (R87). -/
def FxType.addFractional (t : FxType) (raw d : Int) : Int := t.norm (raw + d)

/-- scale(x, k) (R88). -/
def FxType.scale (t : FxType) (raw k : Int) : Int := t.norm (raw * k)

/-- sQ16.16, the format of glide[c].current and glide[c].target (R90). -/
def fxPitch : FxType := { integralBits := 16, fractionalBits := 16, signed := true }

/-- uQ1.31, the format of the LFO phase, increment and reset phase (R90). -/
def fxPhase : FxType := { integralBits := 1, fractionalBits := 31, signed := false }

/-- sQ1.15, the format of the LFO output (R90). -/
def fxOutput : FxType := { integralBits := 1, fractionalBits := 15, signed := true }

end Sys2Proof.Machine
end

