-- ==== Sys2Proof/Machine/Assembly.lean ====
section
/-! DEFINITION. The assembler forms (R76) and the pseudo-instructions (R77). No step reads them. -/

namespace Sys2Proof.Machine

/-- The name of a shape (R76, R98). -/
def Shape.asm : Shape → String
  | .triangle => "TRI"
  | .saw => "SAW"
  | .square => "SQR"
  | .sine => "SINE"
  | .ramp => "RAMP"
  | .random => "RAND"

/-- A glide channel operand (R76). -/
def glideAsm (ch : ChannelNo) : String := "g" ++ Nat.repr ch.toNat

/-- An LFO channel operand (R76). -/
def lfoAsm (ch : ChannelNo) : String := "l" ++ Nat.repr ch.toNat

/-- A signed channel value in decimal (R76). -/
def channelAsm (v : Channel) : String :=
  if v.toInt < 0 then "-" ++ Nat.repr v.toInt.natAbs else Nat.repr v.toInt.natAbs

/-- The command's mnemonic in the opcode table (R73). -/
def mnemonic : Instr → String
  | .nop => "NOP"
  | .glideInit _ _ _ => "GLIDE_INIT"
  | .glideUpdate _ => "GLIDE_UPDATE"
  | .glideRead _ => "GLIDE_READ"
  | .glideStatus _ => "GLIDE_STATUS"
  | .lfoInit _ _ _ => "LFO_INIT"
  | .lfoUpdate _ _ _ _ => "LFO_UPDATE"
  | .lfoPhase _ => "LFO_PHASE"
  | .lfoOut _ => "LFO_OUT"
  | .rbStatus => "RB_STATUS"
  | .rbWrite _ _ => "RB_WRITE"
  | .rbCommit => "RB_COMMIT"
  | .rbAck => "RB_ACK"
  | .rbCursors => "RB_CURSORS"
  | .tcSetPeriod _ => "TC_SET_PERIOD"
  | .tcEnable _ => "TC_ENABLE"
  | .tcReadPeriod => "TC_READ_PERIOD"
  | .dacRead => "DAC_READ"

/-- The assembler form of a command (R76), integers in decimal. -/
def asm : Instr → String
  | .nop => "NOP"
  | .glideInit ch rate target =>
    "GLIDE_INIT " ++ glideAsm ch ++ ", " ++ Nat.repr rate.toNat ++ ", " ++ Nat.repr target.toNat
  | .glideUpdate ch => "GLIDE_UPDATE " ++ glideAsm ch
  | .glideRead ch => "GLIDE_READ " ++ glideAsm ch
  | .glideStatus ch => "GLIDE_STATUS " ++ glideAsm ch
  | .lfoInit ch rate startPhase =>
    "LFO_INIT " ++ lfoAsm ch ++ ", " ++ Nat.repr rate.toNat ++ ", " ++ Nat.repr startPhase.toNat
  | .lfoUpdate ch rate shape abs =>
    (if abs then "LFO_UPDATE.ABS " else "LFO_UPDATE ") ++ lfoAsm ch ++ ", " ++ Nat.repr rate.toNat ++ ", "
      ++ Shape.asm shape
  | .lfoPhase ch => "LFO_PHASE " ++ lfoAsm ch
  | .lfoOut ch => "LFO_OUT " ++ lfoAsm ch
  | .rbStatus => "RB_STATUS"
  | .rbWrite index sample =>
    "RB_WRITE " ++ Nat.repr index.toNat ++ ", " ++ channelAsm (sampleLeft sample) ++ ", "
      ++ channelAsm (sampleRight sample)
  | .rbCommit => "RB_COMMIT"
  | .rbAck => "RB_ACK"
  | .rbCursors => "RB_CURSORS"
  | .tcSetPeriod period => "TC_SET_PERIOD " ++ Nat.repr period.toNat
  | .tcEnable en => if en then "TC_ENABLE 1" else "TC_ENABLE 0"
  | .tcReadPeriod => "TC_READ_PERIOD"
  | .dacRead => "DAC_READ"

/-- GLIDE_NOTE gC, rate, note: the source's Init(target_note, rate), for 0 <= note <= 127 (R77). -/
def glideNote (ch : ChannelNo) (rate : Rate) (note : Nat) : Instr := .glideInit ch rate (BitVec.ofNat 32 note <<< 16)

/-- GLIDE_SNAP gC, target: rate 0 snaps (R77). -/
def glideSnap (ch : ChannelNo) (target : Word) : Instr := .glideInit ch 0 target

/-- LFO_RESET lK, rate (R77). -/
def lfoReset (ch : ChannelNo) (rate : Rate) : Instr := .lfoInit ch rate 0

/-- TC_START (R77). -/
def tcStart : Instr := .tcEnable true

/-- TC_STOP (R77). -/
def tcStop : Instr := .tcEnable false

/-- RB_WRITE index, L, R with its two signed operands packed (R76). -/
def rbWriteSample (index : Nat) (l r : Channel) : Instr := .rbWrite (BitVec.ofNat 16 index) (sampleWord l r)

/-- The RB_WRITE part of RB_PUSH_BLOCK, from a sample index on (R77). -/
def rbWriteSamples : Nat → List (Channel × Channel) → List Instr
  | _, [] => []
  | index, (l, r) :: rest => rbWriteSample index l r :: rbWriteSamples (index + 1) rest

/-- RB_PUSH_BLOCK: S writes, then RB_COMMIT; S + 1 transactions, not one (R77). -/
def rbPushBlock (samples : List (Channel × Channel)) : List Instr := rbWriteSamples 0 samples ++ [.rbCommit]

/-- The HOST step that issues a command (R67). -/
def issue (i : Instr) : AgentStep := .host (encode i).1 (encode i).2

end Sys2Proof.Machine
end

