-- ==== Sys2Proof/Machine/Run.lean ====
section
/-! DEFINITION. Runs and where they end (R152). -/

namespace Sys2Proof.Machine

/-- The step is a HOST transaction. -/
def AgentStep.isHost : AgentStep → Bool
  | .host _ _ => true
  | .tick => false

/-- How many of the agents' steps belong to the run: those up to HOST's last transaction, which is the last of them; the
ticks after it are not part of the run (R152). -/
def runLength : List AgentStep → Nat
  | [] => 0
  | a :: rest => if (a :: rest).any AgentStep.isHost then runLength rest + 1 else 0

/-- The end of a run: the block right after the response to the schedule's last transaction (R152). The ticks after it are
not taken, and are what is left of the schedule. -/
def runToLastResponse (s : State) : Host.Outcome State Fault Refusal := Sys2Proof.core.run (runLength s.schedule) s

/-- The run of R152: HOST's transactions issued from the reset state, with the ticks between them where the schedule has
them. -/
def runFromReset (schedule : List AgentStep) : Host.Outcome State Fault Refusal :=
  runToLastResponse { State.reset with schedule := schedule }

/-- Take every step of a schedule. This goes past the end of R152's run by the ticks that stand after the last transaction:
the block goes on ticking there. -/
def runAll (s : State) : Host.Outcome State Fault Refusal := Sys2Proof.core.run s.schedule.length s

end Sys2Proof.Machine
end

