-- ==== Sys2Proof/Safety.lean ====
section
/-! DEFINITION. What counts as a legal state and a safe run: R49's invariants with the ranges of 10_state.md,
and the words in which the statements speak of commands. -/

namespace Sys2Proof.Machine

/-- The ranges of the cursors and the read position, and R49 (I1), (I2), (I3). -/
def State.RingOk (s : State) : Prop :=
  s.rbW.toNat < 2 * s.cfg.numBlocks ∧ s.rbR.toNat < 2 * s.cfg.numBlocks ∧ s.occ ≤ s.cfg.numBlocks ∧
  (s.occ = 0 → s.rbPos = 0) ∧ s.rbPos.toNat < s.cfg.blockSize

/-- The store's canonical form, and every written word at an address the store has (R51). -/
def State.StoreOk (s : State) : Prop :=
  s.store.wf = true ∧ ∀ cell ∈ s.store, cell.1 < storeSize s.cfg

/-- The tick is enabled only with a period configured (R120, R121). -/
def State.TimerOk (s : State) : Prop := s.tcEn = true → s.tcPeriod ≠ 0

/-- R49 (I4), and the range of reset_phase (R40). -/
def Lfo.Ok (l : Lfo) : Prop := l.phase.toNat ≤ 2 ^ 31 ∧ l.inc.toNat < 2 ^ 31 ∧ l.resetPhase.toNat < 2 ^ 31

/-- R49 (I5), and the range of the increment (R44). -/
def Glide.Ok (g : Glide) : Prop :=
  -(2 ^ 32 - 1) ≤ g.inc.toInt ∧
  (g.inc ≠ 0 → g.current ≠ g.target ∧ g.inc.toInt.sign = (g.target.toInt - g.current.toInt).sign)

/-- The states of R49, with the ranges 10_state.md gives. -/
structure State.Inv (s : State) : Prop where
  config : s.cfg.wellFormed = true
  ring : s.RingOk
  store : s.StoreOk
  timer : s.TimerOk
  lfo : ∀ (k : Nat) (h : k < 3), (s.lfo[k]'h).Ok
  glideCount : s.glide.length = s.cfg.numGlide
  glide : ∀ g ∈ s.glide, g.Ok

/-- The command a step of the agents issues, if it is a legal HOST transaction. -/
def AgentStep.command? : AgentStep → Option Instr
  | .host cmd data =>
    match decode cmd data with
    | .ok i => some i
    | .error _ => none
  | .tick => none

/-- The step is a tick. -/
def AgentStep.isTick : AgentStep → Bool
  | .host _ _ => false
  | .tick => true

/-- The step is a GLIDE_INIT of this channel. -/
def AgentStep.isGlideInit (ch : ChannelNo) (a : AgentStep) : Bool :=
  match a.command? with
  | some (.glideInit c _ _) => c == ch
  | _ => false

/-- The step is a GLIDE_UPDATE of this channel. -/
def AgentStep.isGlideUpdate (ch : ChannelNo) (a : AgentStep) : Bool :=
  match a.command? with
  | some (.glideUpdate c) => c == ch
  | _ => false

/-- The step is a TC_ENABLE. -/
def AgentStep.isTcEnable (a : AgentStep) : Bool :=
  match a.command? with
  | some (.tcEnable _) => true
  | _ => false

/-- The commands that only read: they write nothing but the response (the "Written: nothing" of their rules). -/
def readsOnly : Instr → Bool
  | .nop | .glideRead _ | .glideStatus _ | .lfoPhase _ | .lfoOut _ | .rbStatus | .rbCursors | .tcReadPeriod
  | .dacRead => true
  | _ => false

/-- The commands that R55 says can give a different response or state when repeated. -/
def repeatDiffers : Instr → Bool
  | .rbCommit | .rbAck | .lfoUpdate _ _ _ _ | .glideUpdate _ => true
  | _ => false

/-- The CMD words with this OPC: with the bits [lo+len-1:lo] all 0 the transaction runs the command, with any of them 1
it is ILLEGAL (R71, R74). -/
def EncodedAs (opc : BitVec 8) (lo len : Nat) (command : Word → Word → Instr) : Prop :=
  ∀ (cmd data : Word) (s : State), opcField cmd = opc →
    if cmd.extractLsb' lo len = 0 then transact cmd data s = exec (command cmd data) s
    else transact cmd data s = .next { s with response := some ⟨.illegal, 0⟩ }

end Sys2Proof.Machine
end

