-- ==== Sys2Proof/Certificates/Slice0/Obligations.lean ====
section
/-! DEFINITION. The statements for the provers, in the order of the spec's files. -/

open Sys2Proof Sys2Proof.Machine

/-! ## Reset, invariants and runs -/

/-- R140: every piece of state at its reset value, and what that means: the ring empty, the tick stopped, every glide
channel idle at 0.0, every LFO channel at phase 0 with no reset pending. -/
def Obligations.ResetHoldsSpecValues : Prop :=
  State.reset.rbW = 0 ∧ State.reset.rbR = 0 ∧ State.reset.rbPos = 0 ∧
  State.reset.rbFreed = false ∧ State.reset.irqFreed = false ∧
  (∀ a, State.reset.store.read? a = none) ∧
  State.reset.tcEn = false ∧ State.reset.tcPeriod = 0 ∧ State.reset.dacL = 0 ∧ State.reset.dacR = 0 ∧
  (∀ (k : Nat) (h : k < 3), State.reset.lfo[k]'h =
    { phase := 0, inc := 0, pending := false, resetPhase := 0, out := 0 }) ∧
  State.reset.glide.length = State.reset.cfg.numGlide ∧
  (∀ c, c < State.reset.cfg.numGlide → State.reset.glide[c]? = some { current := 0, target := 0, inc := 0 }) ∧
  State.reset.occ = 0 ∧ State.reset.writable = State.reset.cfg.numBlocks

/-- The state after reset meets the invariant (R49 and the ranges of 10_state.md), whatever well-formed configuration it has
(log entry 10, the model's choice). -/
def Obligations.ResetMeetsInvariant : Prop := State.reset.Inv

/-- R49: every step of either agent keeps the invariant, from every state that meets it. -/
def Obligations.StepKeepsInvariant : Prop := ∀ s t : State, s.Inv → step s = .next t → t.Inv

/-- R67, R127: from a state that meets the invariant no step stops the block. -/
def Obligations.NoStepStopsWithinInvariant : Prop := ∀ s : State, s.Inv → ∃ t, step s = .next t

/-- R152: a run over any interleaving, from any state that meets the invariant, ends at the response to its last transaction
with the invariant met; the ticks after that are not part of it, and putting more there changes nothing; a run from reset is
such a run. Taking the ticks after it too keeps the invariant. The schedule is the model's form of an interleaving (log
entry 2). -/
def Obligations.EveryRunEndsInALegalState : Prop :=
  (∀ s : State, s.Inv → ∃ t, runAll s = .next t ∧ t.Inv ∧ t.schedule = []) ∧
  (∀ s : State, s.Inv → ∃ t, runToLastResponse s = .next t ∧ t.Inv ∧
    t.schedule = s.schedule.drop (runLength s.schedule) ∧ (∀ a ∈ t.schedule, a.isHost = false) ∧
    (s.schedule.any AgentStep.isHost = true → t.response.isSome = true) ∧
    (s.schedule.any AgentStep.isHost = false → t = s)) ∧
  (∀ (s t : State) (n : Nat), runToLastResponse s = .next t →
    runToLastResponse { s with schedule := s.schedule ++ List.replicate n .tick } =
      .next { t with schedule := t.schedule ++ List.replicate n .tick }) ∧
  (∀ schedule : List AgentStep, { State.reset with schedule := schedule }.Inv) ∧
  (∀ schedule : List AgentStep, ∃ t, runFromReset schedule = .next t ∧ t.Inv)

/-- R18, R27: no step writes a parameter. -/
def Obligations.NoStepWritesParameters : Prop := ∀ s t : State, step s = .next t → t.cfg = s.cfg

/-! ## The command port and the encoding -/

/-- R67, R74: a transaction whose words decode runs exactly the decoded command, with the transaction taken off the
schedule; R115: a tick entry takes the TICK step, and none where the tick is not enabled (log entry 4); an empty schedule
changes nothing (log entry 3). -/
def Obligations.StepRunsDecodedCommand : Prop :=
  (∀ (s : State) (cmd data : Word) (rest : List AgentStep) (i : Instr),
    s.schedule = .host cmd data :: rest → decode cmd data = .ok i → step s = exec i { s with schedule := rest }) ∧
  (∀ (s : State) (rest : List AgentStep), s.schedule = .tick :: rest →
    step s = if s.tcEn then tickStep { s with schedule := rest } else .next { s with schedule := rest }) ∧
  (∀ s : State, s.schedule = [] → step s = .next s)

/-- R75: every illegal encoding is answered with ILLEGAL and changes no state; 238 opcodes are unassigned; STATUS 3 is
never produced. -/
def Obligations.IllegalWordsAnswerIllegal : Prop :=
  (∀ (s : State) (cmd data : Word) (rest : List AgentStep), s.schedule = .host cmd data :: rest →
    legalCommand cmd = false →
    step s = .next { s with schedule := rest, response := some { status := .illegal, rdata := 0 } }) ∧
  (List.range 256).countP (fun opc => (Opcode.ofCode? (BitVec.ofNat 8 opc)).isNone) = 238 ∧
  (∀ status : Status, status.code ≠ 3)

/-- R73 to R75: the words that decode are exactly the legal words of the opcode table. -/
def Obligations.DecodeAcceptsExactlyTheTable : Prop :=
  ∀ cmd data : Word, (∃ i, decode cmd data = .ok i) ↔ legalCommand cmd = true

/-- R69 to R73: decoding an encoded command gives it back, every operand at every value. -/
def Obligations.DecodeOfEncode : Prop := ∀ i : Instr, decode (encode i).1 (encode i).2 = .ok i

/-- R68 to R75: a word has one meaning: encoding what was decoded gives the CMD word back, and the DATA word where the
command uses it. -/
def Obligations.EncodeOfDecode : Prop :=
  ∀ (cmd data : Word) (i : Instr), decode cmd data = .ok i → encode i = (cmd, if i.usesData then data else 0)

/-- R68: a command that uses no data operand gives the same result for any DATA. -/
def Obligations.UnusedDataIsIgnored : Prop :=
  ∀ (cmd data data' : Word) (i : Instr), decode cmd data = .ok i → i.usesData = false →
    ∀ s : State, transact cmd data s = transact cmd data' s

/-- R76 and 95_test_vectors.md: words of each family decode to the commands they stand for. -/
def Obligations.SpecWordsDecode : Prop :=
  decode 0x10000001 0x00400000 = .ok (.glideInit 0 1 0x00400000) ∧
  decode 0x21200B0A 0 = .ok (.lfoUpdate 2 10 .sine true) ∧
  decode 0x31000003 0xFF9C00C8 = .ok (.rbWrite 3 0xFF9C00C8) ∧
  decode 0x40000000 0x200 = .ok (.tcSetPeriod 0x200) ∧
  decode 0x00000000 0x12345678 = .ok .nop ∧
  decode 0x14000000 0 = .error .opcodeUnassigned ∧
  decode 0x10300081 0 = .error .mustBeZeroSet ∧
  decode 0x2100060A 0 = .error .shapeReserved

/-- R70, R127: every command is answered, never with ILLEGAL, and a REFUSED one has RDATA 0 and changes nothing. -/
def Obligations.RefusedCommandChangesNothing : Prop :=
  ∀ (i : Instr) (s : State), ∃ t r, exec i s = .next t ∧ t.response = some r ∧ r.status ≠ .illegal ∧
    (r.status = .refused → t = { s with response := some { status := .refused, rdata := 0 } })

/-- R128: a command whose channel, start phase, sample index or period is out of range is REFUSED in every state. -/
def Obligations.OutOfRangeOperandsAreRefused : Prop :=
  ∀ (i : Instr) (s : State), i.wellFormed s.cfg = false →
    exec i s = .next { s with response := some { status := .refused, rdata := 0 } }

/-- The "Written: nothing" of R94, R95, R105, R106, R108, R112, R122, R123, R124: a reading command leaves everything as
it was, every sample word included, but for the response. -/
def Obligations.ReadingCommandsWriteNothing : Prop :=
  ∀ (i : Instr) (s t : State), readsOnly i = true → exec i s = .next t → t = { s with response := t.response }

/-- R55: a command other than RB_COMMIT, RB_ACK, LFO_UPDATE and GLIDE_UPDATE, repeated at once, gives the same response
and leaves the same state as one issue of it. -/
def Obligations.RepeatedCommandsChangeNothing : Prop :=
  ∀ (i : Instr) (s t : State), repeatDiffers i = false → exec i s = .next t → exec i t = .next t

/-! ## Fixed point -/

/-- R79 to R81: norm always gives a value of the type; a saturating type clamps and a full-word type wraps modulo 2^T. -/
def Obligations.NormStaysInType : Prop :=
  ∀ (t : FxType) (v : Int), t.wellFormed = true →
    t.holds (t.norm v) = true ∧
    (t.holds v = true → t.norm v = v) ∧
    (t.total < 32 → v < t.minRaw → t.norm v = t.minRaw) ∧
    (t.total < 32 → t.maxRaw < v → t.norm v = t.maxRaw) ∧
    (t.total = 32 → t.norm v % 2 ^ 32 = v % 2 ^ 32)

/-- R85: every raw value is its integral part times 2^F plus its fractional part, and the fractional part is in range. -/
def Obligations.FixedPointPartsRecompose : Prop :=
  ∀ (t : FxType) (raw : Int),
    raw = t.integral raw * 2 ^ t.fractionalBits + t.fractional raw ∧
    0 ≤ t.fractional raw ∧ t.fractional raw < 2 ^ t.fractionalBits

/-! ## Glide channels -/

/-- R92: GLIDE_INIT snaps where rate = 0 or target = current, and otherwise arms the channel with the increment
trunc(delta * GLIDE_COEF[rate] / 65536), forced to sign(delta) where that is 0; the 33-bit register holds it exactly. -/
def Obligations.GlideInitSnapsOrArms : Prop :=
  (∀ (s : State) (ch : ChannelNo) (rate : Rate) (target : Word), s.cfg.numGlide ≤ ch.toNat →
    exec (.glideInit ch rate target) s = .next { s with response := some { status := .refused, rdata := 0 } }) ∧
  (∀ (s : State) (ch : ChannelNo) (rate : Rate) (target : Word) (g : Glide), ch.toNat < s.cfg.numGlide →
    s.glide[ch.toNat]? = some g →
    ∃ g', exec (.glideInit ch rate target) s =
        .next { s with glide := s.glide.set ch.toNat g', response := some { status := .ok, rdata := g'.current } } ∧
      g'.target = target ∧
      (if rate = 0 ∨ target = g.current then g'.current = target ∧ g'.inc = 0
       else g'.current = g.current ∧
        g'.inc.toInt =
          if ((target.toInt - g.current.toInt) * (s.cfg.glideCoef[rate.toNat].val : Int)).tdiv 65536 = 0
          then (target.toInt - g.current.toInt).sign
          else ((target.toInt - g.current.toInt) * (s.cfg.glideCoef[rate.toNat].val : Int)).tdiv 65536)) ∧
  EncodedAs 0x10 7 13 (fun cmd data => .glideInit (chField cmd) (rateField cmd) data)

/-- R93: GLIDE_UPDATE leaves an idle channel as it is, lands exactly on the target where the step would reach or cross
it, and otherwise adds the increment exactly, with no wrap. -/
def Obligations.GlideUpdateStepsOrArrives : Prop :=
  (∀ (s : State) (ch : ChannelNo), s.cfg.numGlide ≤ ch.toNat →
    exec (.glideUpdate ch) s = .next { s with response := some { status := .refused, rdata := 0 } }) ∧
  (∀ (s : State) (ch : ChannelNo) (g : Glide), ch.toNat < s.cfg.numGlide → s.glide[ch.toNat]? = some g →
    ∃ g', exec (.glideUpdate ch) s =
        .next { s with glide := s.glide.set ch.toNat g', response := some { status := .ok, rdata := g'.current } } ∧
      g'.target = g.target ∧
      (if g.inc = 0 then g' = g
       else if (0 < g.inc.toInt ∧ g.target.toInt ≤ g.current.toInt + g.inc.toInt) ∨
          (g.inc.toInt < 0 ∧ g.current.toInt + g.inc.toInt ≤ g.target.toInt)
        then g'.current = g.target ∧ g'.inc = 0
       else g'.current.toInt = g.current.toInt + g.inc.toInt ∧ g'.inc = g.inc)) ∧
  EncodedAs 0x11 0 20 (fun cmd _ => .glideUpdate (chField cmd))

/-- R94: GLIDE_READ. -/
def Obligations.GlideReadAnswersCurrent : Prop :=
  (∀ (s : State) (ch : ChannelNo), s.cfg.numGlide ≤ ch.toNat →
    exec (.glideRead ch) s = .next { s with response := some { status := .refused, rdata := 0 } }) ∧
  (∀ (s : State) (ch : ChannelNo) (g : Glide), ch.toNat < s.cfg.numGlide → s.glide[ch.toNat]? = some g →
    exec (.glideRead ch) s = .next { s with response := some { status := .ok, rdata := g.current } } ∧
    fxPitch.integral g.current.toInt = (g.current.extractLsb' 16 16).toInt ∧
    fxPitch.fractional g.current.toInt = ((g.current.extractLsb' 0 16).toNat : Int)) ∧
  EncodedAs 0x12 0 20 (fun cmd _ => .glideRead (chField cmd))

/-- R95: GLIDE_STATUS. -/
def Obligations.GlideStatusAnswersActive : Prop :=
  (∀ (s : State) (ch : ChannelNo), s.cfg.numGlide ≤ ch.toNat →
    exec (.glideStatus ch) s = .next { s with response := some { status := .refused, rdata := 0 } }) ∧
  (∀ (s : State) (ch : ChannelNo) (g : Glide), ch.toNat < s.cfg.numGlide → s.glide[ch.toNat]? = some g →
    exec (.glideStatus ch) s =
      .next { s with response := some { status := .ok, rdata := if g.inc = 0 then 0 else 1 } }) ∧
  EncodedAs 0x13 0 20 (fun cmd _ => .glideStatus (chField cmd))

/-- The "Written" lists of R92 and R93: GLIDE_INIT and GLIDE_UPDATE change nothing but their own channel, and the
response. -/
def Obligations.GlideCommandsWriteOneChannel : Prop :=
  ∀ (s t : State) (ch : ChannelNo) (i : Instr),
    ((∃ rate target, i = .glideInit ch rate target) ∨ i = .glideUpdate ch) → exec i s = .next t →
    t = { s with glide := t.glide, response := t.response } ∧ t.glide.length = s.glide.length ∧
    (∀ c, c ≠ ch.toNat → t.glide[c]? = s.glide[c]?) ∧
    (∀ a, t.store.read? a = s.store.read? a)

/-- R96: a glide that is not idle, at distance D with increment q, reaches its target after exactly ceil(D/|q|)
GLIDE_UPDATEs of its channel, whatever else happens in between but a GLIDE_INIT of it: before that it is at
current + j*q, and from then on it is idle on the target. The count is at most D. The schedule is the model's form of an
interleaving (log entry 2). -/
def Obligations.GlideConvergesInExactlyCeilUpdates : Prop :=
  ∀ (s : State) (ch : ChannelNo) (g : Glide) (dist q count : Nat), s.Inv → s.glide[ch.toNat]? = some g → g.inc ≠ 0 →
    dist = (g.target.toInt - g.current.toInt).natAbs → q = g.inc.toInt.natAbs → count = (dist + q - 1) / q →
    (∀ a ∈ s.schedule, a.isGlideInit ch = false) →
    count ≤ dist ∧ dist ≤ 2 ^ 32 - 1 ∧
    ∃ t g', runAll s = .next t ∧ t.glide[ch.toNat]? = some g' ∧ g'.target = g.target ∧
      (s.schedule.countP (·.isGlideUpdate ch) < count →
        g'.current.toInt = g.current.toInt + (s.schedule.countP (·.isGlideUpdate ch) : Int) * g.inc.toInt ∧
        g'.inc = g.inc) ∧
      (count ≤ s.schedule.countP (·.isGlideUpdate ch) → g'.current = g.target ∧ g'.inc = 0)

/-- R97, its first sentence: with strictly increasing coefficients the increment's magnitude does not decrease with the
rate, and it has the sign of the distance. -/
def Obligations.GlideIncrementGrowsWithRate : Prop :=
  ∀ (cfg : Config) (delta : Int) (r r' : Rate), cfg.wellFormed = true → delta ≠ 0 → r.toNat ≤ r'.toNat →
    (glideIncrement delta (glideCoefAt cfg r)).natAbs ≤ (glideIncrement delta (glideCoefAt cfg r')).natAbs ∧
    (glideIncrement delta (glideCoefAt cfg r)).sign = delta.sign

/-! ## LFO channels -/

/-- R99: advance, with its two ranges. -/
def Obligations.AdvanceWrapsOrClamps : Prop :=
  ∀ (p inc : Nat) (shape : Shape), p ≤ 2 ^ 31 → inc < 2 ^ 31 →
    advance p inc shape =
      (if shape = .ramp then min (p + inc) (2 ^ 31)
       else if 2 ^ 31 ≤ p + inc then p + inc - 2 ^ 31 else p + inc) ∧
    (shape ≠ .ramp → advance p inc shape < 2 ^ 31) ∧
    (shape = .ramp → p ≤ advance p inc shape ∧ advance p inc shape ≤ 2 ^ 31)

/-- R100: the waveforms on u = p >> 15 and v = u mod 65536, each in [-32768, 32767] with no clamp. -/
def Obligations.WaveFollowsFormulasInRange : Prop :=
  ∀ (cfg : Config) (p : Nat) (random : Channel) (shape : Shape) (u v : Nat), p ≤ 2 ^ 31 → u = p >>> 15 → v = u % 65536 →
    u ≤ 65536 ∧
    -32768 ≤ wave cfg shape p random ∧ wave cfg shape p random ≤ 32767 ∧
    wave cfg .triangle p random = (if v < 32768 then 2 * (v : Int) - 32768 else 98303 - 2 * (v : Int)) ∧
    wave cfg .saw p random = (v : Int) - 32768 ∧
    wave cfg .square p random = (if v < 32768 then 32767 else -32768) ∧
    (∀ (h : v >>> 8 < 257) (h' : (v >>> 8) + 1 < 257),
      wave cfg .sine p random = (cfg.sine[v >>> 8]'h).toInt +
        (((cfg.sine[(v >>> 8) + 1]'h').toInt - (cfg.sine[v >>> 8]'h).toInt) * ((v % 256 : Nat) : Int)).fdiv 256) ∧
    (v >>> 8) + 1 < 257 ∧
    wave cfg .ramp p random = (((u * 32767) >>> 16 : Nat) : Int) ∧
    wave cfg .random p random = random.toInt

/-- R102: fold, which is the saturating norm of the absolute value. -/
def Obligations.FoldSaturatesAbsoluteValue : Prop :=
  ∀ y : Int, -32768 ≤ y → y ≤ 32767 →
    fold y = min |y| 32767 ∧ fold (-32768) = 32767 ∧ fold y = fxOutput.norm |y| ∧ 0 ≤ fold y

/-- R103: LFO_INIT sets the increment and arms a reset; an absent channel or a start phase of 1.0 or more is REFUSED. -/
def Obligations.LfoInitArmsReset : Prop :=
  (∀ (s : State) (ch : ChannelNo) (rate : Rate) (start : Word), 3 ≤ ch.toNat ∨ 2 ^ 31 ≤ start.toNat →
    exec (.lfoInit ch rate start) s = .next { s with response := some { status := .refused, rdata := 0 } }) ∧
  (∀ (s : State) (ch : ChannelNo) (rate : Rate) (start : Word) (l : Lfo), s.lfo[ch.toNat]? = some l →
    start.toNat < 2 ^ 31 →
    ∃ l', exec (.lfoInit ch rate start) s =
        .next { s with lfo := s.lfo.setIfInBounds ch.toNat l', response := some { status := .ok, rdata := 0 } } ∧
      l'.inc.toNat = s.cfg.lfoInc[rate.toNat].toNat ∧ l'.resetPhase = start ∧ l'.pending = true ∧
      l'.phase = l.phase ∧ l'.out = l.out) ∧
  (∀ ch : ChannelNo, ch.toNat < 3 → ∀ s : State, ∃ l, s.lfo[ch.toNat]? = some l) ∧
  EncodedAs 0x20 7 13 (fun cmd data => .lfoInit (chField cmd) (rateField cmd) data)

/-- R104: LFO_UPDATE loads the new rate's increment, applies the pending reset or advances, and outputs the wave of the
new phase, folded if abs = 1. The RANDOM draw is the free value of the state's draw count (log entry 6). -/
def Obligations.LfoUpdateAdvancesAndOutputs : Prop :=
  (∀ (s : State) (ch : ChannelNo) (rate : Rate) (shape : Shape) (abs : Bool), 3 ≤ ch.toNat →
    exec (.lfoUpdate ch rate shape abs) s = .next { s with response := some { status := .refused, rdata := 0 } }) ∧
  (∀ (s : State) (ch : ChannelNo) (rate : Rate) (shape : Shape) (abs : Bool) (l : Lfo),
    s.lfo[ch.toNat]? = some l → l.Ok →
    ∃ l', exec (.lfoUpdate ch rate shape abs) s =
        .next { s with lfo := s.lfo.setIfInBounds ch.toNat l',
                       draws := s.draws + (if shape = .random then 1 else 0),
                       response := some { status := .ok, rdata := l'.out.signExtend 32 } } ∧
      l'.inc.toNat = s.cfg.lfoInc[rate.toNat].toNat ∧ l'.pending = false ∧ l'.resetPhase = l.resetPhase ∧
      l'.phase.toNat =
        (if l.pending then l.resetPhase.toNat else advance l.phase.toNat l'.inc.toNat shape) ∧
      l'.out.toInt =
        (if abs then min |wave s.cfg shape l'.phase.toNat (Config.freeRandom s.draws)| 32767
         else wave s.cfg shape l'.phase.toNat (Config.freeRandom s.draws))) ∧
  (∀ (cmd data : Word) (s : State), opcField cmd = 0x21 →
    if cmd.extractLsb' 12 8 = 0 ∧ cmd.getLsbD 7 = false ∧ (shapeField cmd).toNat < 6 then
      ∃ shape : Shape, shape.code = shapeField cmd ∧
        transact cmd data s = exec (.lfoUpdate (chField cmd) (rateField cmd) shape (absField cmd)) s
    else transact cmd data s = .next { s with response := some { status := .illegal, rdata := 0 } })

/-- R105: LFO_PHASE; no update but a RAMP's leaves a phase of 1.0. -/
def Obligations.LfoPhaseAnswersPhase : Prop :=
  (∀ (s : State) (ch : ChannelNo), 3 ≤ ch.toNat →
    exec (.lfoPhase ch) s = .next { s with response := some { status := .refused, rdata := 0 } }) ∧
  (∀ (s : State) (ch : ChannelNo) (l : Lfo), s.lfo[ch.toNat]? = some l →
    exec (.lfoPhase ch) s = .next { s with response := some { status := .ok, rdata := l.phase } }) ∧
  (∀ (s t : State) (ch : ChannelNo) (rate : Rate) (shape : Shape) (abs : Bool) (l l' : Lfo), s.lfo[ch.toNat]? = some l →
    l.Ok → shape ≠ .ramp → exec (.lfoUpdate ch rate shape abs) s = .next t → t.lfo[ch.toNat]? = some l' →
    l'.phase.toNat < 2 ^ 31) ∧
  EncodedAs 0x22 0 20 (fun cmd _ => .lfoPhase (chField cmd))

/-- R106: LFO_OUT. -/
def Obligations.LfoOutAnswersOutput : Prop :=
  (∀ (s : State) (ch : ChannelNo), 3 ≤ ch.toNat →
    exec (.lfoOut ch) s = .next { s with response := some { status := .refused, rdata := 0 } }) ∧
  (∀ (s : State) (ch : ChannelNo) (l : Lfo), s.lfo[ch.toNat]? = some l →
    ∃ rdata : Word, rdata.toInt = l.out.toInt ∧
      exec (.lfoOut ch) s = .next { s with response := some { status := .ok, rdata := rdata } }) ∧
  EncodedAs 0x23 0 20 (fun cmd _ => .lfoOut (chField cmd))

/-- The "Written" lists of R103 and R104: LFO_INIT and LFO_UPDATE change nothing but their own channel, the response and
the count of draws, which is the model's own (log entry 6). -/
def Obligations.LfoCommandsWriteOneChannel : Prop :=
  ∀ (s t : State) (ch : ChannelNo) (i : Instr),
    ((∃ rate start, i = .lfoInit ch rate start) ∨ (∃ rate shape abs, i = .lfoUpdate ch rate shape abs)) →
    exec i s = .next t →
    t = { s with lfo := t.lfo, draws := t.draws, response := t.response } ∧
    (∀ (k : Nat) (h : k < 3), k ≠ ch.toNat → t.lfo[k]'h = s.lfo[k]'h) ∧
    ((∃ rate start, i = .lfoInit ch rate start) → t.draws = s.draws) ∧
    (∀ a, t.store.read? a = s.store.read? a)

/-- R104: a RAMP at 1.0 with no reset pending stays at 1.0, with no reset pending and full-scale output, whatever the
rate. -/
def Obligations.RampStaysAtOne : Prop :=
  ∀ (s t : State) (ch : ChannelNo) (l : Lfo) (rate : Rate) (abs : Bool), s.lfo[ch.toNat]? = some l →
    l.phase.toNat = 2 ^ 31 → l.pending = false → exec (.lfoUpdate ch rate .ramp abs) s = .next t →
    ∃ l', t.lfo[ch.toNat]? = some l' ∧ l'.phase.toNat = 2 ^ 31 ∧ l'.pending = false ∧ l'.out.toInt = 32767

/-- R101: the RANDOM output is the next draw, and the next update takes a fresh one; the count of draws is the model's own
(log entry 6). -/
def Obligations.RandomOutputIsAFreshDraw : Prop :=
  ∀ (s : State) (ch : ChannelNo) (rate : Rate), ch.toNat < 3 →
    ∃ t l', exec (.lfoUpdate ch rate .random false) s = .next t ∧ t.lfo[ch.toNat]? = some l' ∧
      l'.out = Config.freeRandom s.draws ∧ t.draws = s.draws + 1

/-- R149: the channels share no state, so a GLIDE_UPDATE and an LFO_UPDATE give the same responses and leave the same
block in either order. -/
def Obligations.GlideAndLfoUpdatesCommute : Prop :=
  ∀ (s a b a' b' : State) (c k : ChannelNo) (rate : Rate) (shape : Shape) (abs : Bool),
    exec (.glideUpdate c) s = .next a → exec (.lfoUpdate k rate shape abs) a = .next b →
    exec (.lfoUpdate k rate shape abs) s = .next a' → exec (.glideUpdate c) a' = .next b' →
    b' = { b with response := b'.response } ∧ b.response = a'.response ∧ b'.response = a.response

/-! ## The ring buffer -/

/-- R107: the counts of the ring add up, and the block indices are inside the ring. -/
def Obligations.RingCountsAddUp : Prop :=
  ∀ s : State, s.Inv →
    s.writable + s.readable = s.cfg.numBlocks ∧
    ((s.occ : Int) - ((s.rbW.toNat : Int) - s.rbR.toNat)) % (2 * s.cfg.numBlocks) = 0 ∧
    s.wblk < s.cfg.numBlocks ∧ s.rblk < s.cfg.numBlocks ∧
    (s.occ = 0 ↔ s.rbW = s.rbR)

/-- R108: RB_STATUS, with its layout; after reset it reads N_B. -/
def Obligations.RbStatusAnswersStatusWord : Prop :=
  (∀ s : State, s.Inv → ∃ w : Word,
    exec .rbStatus s = .next { s with response := some { status := .ok, rdata := w } } ∧
    (w.extractLsb' 0 8).toNat = s.writable ∧ (w.extractLsb' 8 8).toNat = s.readable ∧
    w.getLsbD 16 = s.rbFreed ∧ w.getLsbD 17 = s.tcEn ∧ w.extractLsb' 18 14 = 0 ∧
    s.writable + s.readable = s.cfg.numBlocks) ∧
  (∀ s : State, exec .rbStatus s = .next { s with response := some { status := .ok, rdata := s.statusWord } }) ∧
  State.reset.statusWord.toNat = State.reset.cfg.numBlocks ∧
  EncodedAs 0x30 0 24 (fun _ _ => .rbStatus)

/-- R109: RB_WRITE writes one word of the producer's block; a full ring or an index outside the block is REFUSED; the block
a tick reads is another one. -/
def Obligations.RbWriteWritesProducerBlock : Prop :=
  (∀ (s : State) (index : BitVec 16) (sample : Word), s.writable = 0 ∨ s.cfg.blockSize ≤ index.toNat →
    exec (.rbWrite index sample) s = .next { s with response := some { status := .refused, rdata := 0 } }) ∧
  (∀ (s : State) (index : BitVec 16) (sample : Word) (a : Nat), s.writable ≠ 0 → index.toNat < s.cfg.blockSize →
    a = (s.rbW.toNat % s.cfg.numBlocks) * s.cfg.blockSize + index.toNat →
    a < s.cfg.numBlocks * s.cfg.blockSize ∧
    ∃ store, exec (.rbWrite index sample) s =
        .next { s with store := store, response := some { status := .ok, rdata := 0 } } ∧
      store.read? a = some sample ∧ ∀ b, b ≠ a → store.read? b = s.store.read? b) ∧
  (∀ s : State, s.Inv → s.writable ≠ 0 → 1 ≤ s.occ → s.rblk ≠ s.wblk) ∧
  EncodedAs 0x31 16 8 (fun cmd data => .rbWrite (indexField cmd) data)

/-- R110: RB_COMMIT publishes the producer's block, its words as they stand; a full ring is REFUSED; no tick moves wblk or
reads it. -/
def Obligations.RbCommitPublishesBlock : Prop :=
  (∀ s : State, s.writable = 0 →
    exec .rbCommit s = .next { s with response := some { status := .refused, rdata := 0 } }) ∧
  (∀ s : State, s.Inv → s.writable ≠ 0 →
    ∃ t, exec .rbCommit s = .next t ∧
      t = { s with rbW := t.rbW, response := some { status := .ok, rdata := t.statusWord } } ∧
      t.rbW.toNat = (s.rbW.toNat + 1) % (2 * s.cfg.numBlocks) ∧
      t.readable = s.readable + 1 ∧ t.writable + 1 = s.writable) ∧
  (∀ s t : State, tickStep s = .next t → t.wblk = s.wblk) ∧
  (∀ s : State, s.Inv → s.writable ≠ 0 → 1 ≤ s.occ → s.rblk ≠ s.wblk) ∧
  EncodedAs 0x32 0 24 (fun _ _ => .rbCommit)

/-- R111: RB_ACK answers the status word from before the clear and clears rb_freed, in one step. -/
def Obligations.RbAckReadsThenClears : Prop :=
  (∀ s : State,
    exec .rbAck s = .next { s with rbFreed := false, response := some { status := .ok, rdata := s.statusWord } }) ∧
  (∀ s t : State, exec .rbAck s = .next t → t.irqFreed = false ∧ s.statusWord.getLsbD 16 = s.rbFreed) ∧
  EncodedAs 0x33 0 24 (fun _ _ => .rbAck)

/-- R112: RB_CURSORS. -/
def Obligations.RbCursorsAnswersCursors : Prop :=
  (∀ s : State, ∃ w : Word,
    exec .rbCursors s = .next { s with response := some { status := .ok, rdata := w } } ∧
    w.extractLsb' 0 8 = s.rbW ∧ w.extractLsb' 8 8 = s.rbR ∧ w.extractLsb' 16 16 = s.rbPos) ∧
  EncodedAs 0x34 0 24 (fun _ _ => .rbCursors)

/-- The "Written" lists of R109, R110 and R111: RB_WRITE writes one sample word, at the address its rule computes, and no
cursor and no flag; RB_COMMIT writes rb_w alone; RB_ACK writes rb_freed alone. -/
def Obligations.RingCommandsWriteOnlyTheirPart : Prop :=
  (∀ (s t : State) (index : BitVec 16) (sample : Word) (a : Nat), exec (.rbWrite index sample) s = .next t →
    sampleAddress s.cfg s.wblk index.toNat = a →
    t = { s with store := t.store, response := t.response } ∧
    ∀ b, b ≠ a → t.store.read? b = s.store.read? b) ∧
  (∀ s t : State, exec .rbCommit s = .next t →
    t = { s with rbW := t.rbW, response := t.response } ∧ ∀ a, t.store.read? a = s.store.read? a) ∧
  (∀ s t : State, exec .rbAck s = .next t →
    t = { s with rbFreed := t.rbFreed, response := t.response } ∧ ∀ a, t.store.read? a = s.store.read? a)

/-- R61: while the ring is not full the producer's block is not a readable block, and the block the consumer reads is
readable while there is one. -/
def Obligations.ProducerBlockIsNotReadable : Prop :=
  ∀ s : State, s.Inv →
    (s.occ < s.cfg.numBlocks → s.isReadableBlock s.wblk = false) ∧
    (1 ≤ s.occ → s.isReadableBlock s.rblk = true)

/-- R61, R62: no step of either agent changes a word of a readable block. -/
def Obligations.ReadableWordsAreStable : Prop :=
  ∀ (s t : State) (b i : Nat), s.Inv → step s = .next t → s.isReadableBlock b = true → i < s.cfg.blockSize →
    t.store.read? (sampleAddress s.cfg b i) = s.store.read? (sampleAddress s.cfg b i)

/-- R7, R28, R29, R30, R36: no command moves rb_r or rb_pos or writes the D/A registers, only RB_COMMIT moves rb_w, and no
TICK step moves rb_w. -/
def Obligations.EachCursorHasOneWriter : Prop :=
  (∀ (i : Instr) (s t : State), exec i s = .next t →
    t.rbR = s.rbR ∧ t.rbPos = s.rbPos ∧ t.dacL = s.dacL ∧ t.dacR = s.dacR ∧ (i ≠ .rbCommit → t.rbW = s.rbW)) ∧
  (∀ s t : State, tickStep s = .next t → t.rbW = s.rbW)

/-- R31, R131: rb_freed is cleared by RB_ACK alone and set by TICK alone, in the step that frees a block. -/
def Obligations.OnlyAckClearsFreed : Prop :=
  (∀ (i : Instr) (s t : State), exec i s = .next t → t.rbFreed = if i = .rbAck then false else s.rbFreed) ∧
  (∀ s t : State, tickStep s = .next t → s.rbFreed = true → t.rbFreed = true) ∧
  (∀ s t : State, tickStep s = .next t → t.rbFreed ≠ s.rbFreed → t.rbR ≠ s.rbR)

/-! ## The consumer step and timing control -/

/-- R115: an enabled TICK with a readable block outputs the word at rblk*S + rb_pos (a draw if it is unwritten), advances
the position, and after the block's last sample frees the block. The draw is the free value of the model's own count of draws
(log entry 6). -/
def Obligations.TickConsumesOneSample : Prop :=
  ∀ (s : State) (a : Nat) (v : Word), s.Inv → s.tcEn = true → 1 ≤ s.occ →
    a = (s.rbR.toNat % s.cfg.numBlocks) * s.cfg.blockSize + s.rbPos.toNat →
    v = (s.store.read? a).getD (Config.freeSample s.draws) →
    ∃ t, tickStep s = .next t ∧
      t.dacL = v.extractLsb' 16 16 ∧ t.dacR = v.extractLsb' 0 16 ∧
      t.draws = s.draws + (if s.store.read? a = none then 1 else 0) ∧
      (if s.rbPos.toNat + 1 = s.cfg.blockSize then
        t.rbPos = 0 ∧ t.rbR.toNat = (s.rbR.toNat + 1) % (2 * s.cfg.numBlocks) ∧ t.rbFreed = true ∧ t.occ + 1 = s.occ
       else t.rbPos.toNat = s.rbPos.toNat + 1 ∧ t.rbR = s.rbR ∧ t.rbFreed = s.rbFreed ∧ t.occ = s.occ)

/-- R116: a TICK with no readable block changes no state. -/
def Obligations.UnderrunChangesNothing : Prop := ∀ s : State, s.occ = 0 → tickStep s = .next s

/-- R115's "Writes": a TICK step writes dac_l, dac_r, rb_pos, rb_r and rb_freed and nothing else (the count of draws is the
model's own, log entry 6). -/
def Obligations.TickWritesReadSideOnly : Prop :=
  ∀ s t : State, tickStep s = .next t →
    t = { s with dacL := t.dacL, dacR := t.dacR, rbPos := t.rbPos, rbR := t.rbR, rbFreed := t.rbFreed,
                 draws := t.draws } ∧
    (∀ a, t.store.read? a = s.store.read? a)

/-- R145: occ*S - rb_pos ticks are left before an underrun: it is 0 exactly at occ = 0, each consuming tick takes one from
it, and a commit adds S. -/
def Obligations.TicksLeftBeforeUnderrun : Prop :=
  (∀ s : State, s.Inv → (s.ticksToUnderrun = 0 ↔ s.occ = 0)) ∧
  (∀ s t : State, s.Inv → s.tcEn = true → 1 ≤ s.occ → tickStep s = .next t →
    t.ticksToUnderrun + 1 = s.ticksToUnderrun) ∧
  (∀ s t : State, s.Inv → s.writable ≠ 0 → exec .rbCommit s = .next t →
    t.ticksToUnderrun = s.ticksToUnderrun + s.cfg.blockSize)

/-- R114: the samples that are readable now go out in the order of their blocks' commits and, within a block, of their
indices: after j more ticks, whatever commands but TC_ENABLE fall between, the next tick outputs the sample j places on from
the read position, and its word is the one the store holds now. The schedule is the model's form of an interleaving (log
entry 2). -/
def Obligations.ReadableSamplesPlayInOrder : Prop :=
  ∀ (s : State) (before : List AgentStep) (j : Nat) (v : Word), s.Inv → s.tcEn = true →
    s.schedule = before ++ [.tick] → (∀ a ∈ before, a.isTcEnable = false) → before.countP (·.isTick) = j →
    j < s.ticksToUnderrun →
    s.store.read? (sampleAddress s.cfg
      ((s.rbR.toNat + (s.rbPos.toNat + j) / s.cfg.blockSize) % s.cfg.numBlocks)
      ((s.rbPos.toNat + j) % s.cfg.blockSize)) = some v →
    ∃ t, runAll s = .next t ∧ t.dacL = v.extractLsb' 16 16 ∧ t.dacR = v.extractLsb' 0 16

/-- R120: TC_SET_PERIOD. -/
def Obligations.TcSetPeriodStoresPeriod : Prop :=
  (∀ s : State, exec (.tcSetPeriod 0) s = .next { s with response := some { status := .refused, rdata := 0 } }) ∧
  (∀ (s : State) (period : Word), period ≠ 0 →
    exec (.tcSetPeriod period) s =
      .next { s with tcPeriod := period, response := some { status := .ok, rdata := 0 } }) ∧
  EncodedAs 0x40 0 24 (fun _ data => .tcSetPeriod data)

/-- R121: TC_ENABLE. -/
def Obligations.TcEnableStartsOrStopsTick : Prop :=
  (∀ s : State, s.tcPeriod = 0 →
    exec (.tcEnable true) s = .next { s with response := some { status := .refused, rdata := 0 } }) ∧
  (∀ (s : State) (en : Bool), en = false ∨ s.tcPeriod ≠ 0 →
    exec (.tcEnable en) s = .next { s with tcEn := en, response := some { status := .ok, rdata := 0 } }) ∧
  EncodedAs 0x41 1 23 (fun cmd _ => .tcEnable (enField cmd))

/-- R122: TC_READ_PERIOD. -/
def Obligations.TcReadPeriodAnswersPeriod : Prop :=
  (∀ s : State, exec .tcReadPeriod s = .next { s with response := some { status := .ok, rdata := s.tcPeriod } }) ∧
  EncodedAs 0x42 0 24 (fun _ _ => .tcReadPeriod)

/-- R123: DAC_READ. -/
def Obligations.DacReadAnswersDac : Prop :=
  (∀ s : State, ∃ w : Word,
    exec .dacRead s = .next { s with response := some { status := .ok, rdata := w } } ∧
    w.extractLsb' 16 16 = s.dacL ∧ w.extractLsb' 0 16 = s.dacR) ∧
  EncodedAs 0x43 0 24 (fun _ _ => .dacRead)

/-- R124: NOP. -/
def Obligations.NopDoesNothing : Prop :=
  (∀ s : State, exec .nop s = .next { s with response := some { status := .ok, rdata := 0 } }) ∧
  EncodedAs 0x00 0 24 (fun _ _ => .nop)

/-- The "Written" lists of R120 and R121: TC_SET_PERIOD writes tc_period alone and TC_ENABLE writes tc_en alone. -/
def Obligations.TimingCommandsWriteOnlyTheirRegister : Prop :=
  (∀ (s t : State) (period : Word), exec (.tcSetPeriod period) s = .next t →
    t = { s with tcPeriod := t.tcPeriod, response := t.response } ∧ ∀ a, t.store.read? a = s.store.read? a) ∧
  (∀ (s t : State) (en : Bool), exec (.tcEnable en) s = .next t →
    t = { s with tcEn := t.tcEn, response := t.response } ∧ ∀ a, t.store.read? a = s.store.read? a)

/-- R118: no rule depends on tc_period: of two states that differ in nothing but a configured period, every step that does
not issue TC_READ_PERIOD gives states that again differ in nothing else. -/
def Obligations.PeriodValueIsNotObservable : Prop :=
  ∀ (s t : State) (p : Word), s.tcPeriod ≠ 0 → p ≠ 0 → step s = .next t →
    (∀ a ∈ s.schedule.head?, a.command? ≠ some .tcReadPeriod) →
    t.tcPeriod ≠ 0 ∧ ∃ p', p' ≠ 0 ∧ step { s with tcPeriod := p } = .next { t with tcPeriod := p' }
end

