-- ==== Sys2Proof/Laws/Decode.lean ====
section
/-! SUPPORT. The laws of the encoding: fields of a CMD word, and the opcode table. -/

namespace Sys2Proof

/-- Every bit of a CMD word, by the three fields of R69. -/
theorem getLsbD_cmdWord (op : Opcode) (ch : ChannelNo) (imm : BitVec 20) (i : Nat) :
    (cmdWord op ch imm).getLsbD i =
      if i < 20 then imm.getLsbD i else if i - 20 < 4 then ch.getLsbD (i - 20) else op.code.getLsbD (i - 20 - 4) := by
  have h₁ := BitVec.getLsbD_append (x := op.code ++ ch) (y := imm) (i := i)
  rw [BitVec.getLsbD_append (x := op.code) (y := ch)] at h₁
  exact h₁

@[simp] theorem opcField_cmdWord (op : Opcode) (ch : ChannelNo) (imm : BitVec 20) :
    opcField (cmdWord op ch imm) = op.code := by
  ext i hi
  have h : ¬ 24 + i < 20 ∧ ¬ 24 + i - 20 < 4 ∧ 24 + i - 20 - 4 = i := by omega
  simp only [opcField, BitVec.getElem_extractLsb', getLsbD_cmdWord, h, if_false, BitVec.getLsbD_eq_getElem hi]

@[simp] theorem chField_cmdWord (op : Opcode) (ch : ChannelNo) (imm : BitVec 20) :
    chField (cmdWord op ch imm) = ch := by
  ext i hi
  have h : ¬ 20 + i < 20 ∧ 20 + i - 20 = i := by omega
  simp only [chField, BitVec.getElem_extractLsb', getLsbD_cmdWord, h, if_false, hi, if_true,
    BitVec.getLsbD_eq_getElem hi]

/-- A field of IMM is the field of the CMD word at the same bits. -/
theorem extractLsb'_cmdWord (op : Opcode) (ch : ChannelNo) (imm : BitVec 20) {lo len : Nat} (h : lo + len ≤ 20) :
    (cmdWord op ch imm).extractLsb' lo len = imm.extractLsb' lo len := by
  ext i hi
  have h' : lo + i < 20 := by omega
  simp only [BitVec.getElem_extractLsb', getLsbD_cmdWord, h', if_true]

/-- The OPC values are distinct and are found again. -/
@[simp] theorem Opcode.ofCode?_code (op : Opcode) : Opcode.ofCode? op.code = some op := by
  cases op <;> decide

@[simp] theorem Shape.ofCode?_code (shape : Shape) : Shape.ofCode? shape.code = some shape := by
  cases shape <;> decide

/-- No word is in two rows of the opcode table: two rows differ in a bit that both masks keep. -/
theorem opcodeTable_rows_disjoint :
    opcodeTable.Pairwise (fun r r' => (r.value ^^^ r'.value) &&& (r.mask &&& r'.mask) ≠ 0) := by
  decide

end Sys2Proof
end

