-- ==== Sys2Proof/Laws/State.lean ====
section
/-! SUPPORT. One lemma per field per update of the state, true by rfl, and the derived quantities an update leaves alone. -/

namespace Sys2Proof.Machine

@[simp] theorem State.respondOk_eq (s : State) (rdata : Word) : s.respondOk rdata = s.respond .ok rdata := rfl
@[simp] theorem State.refuse_eq (s : State) : s.refuse = s.respond .refused 0 := rfl
@[simp] theorem State.respondIllegal_eq (s : State) : s.respondIllegal = s.respond .illegal 0 := rfl

/-! ## respond -/

@[simp] theorem State.respond_cfg (s : State) (status : Status) (rdata : Word) :
    (s.respond status rdata).cfg = s.cfg := rfl
@[simp] theorem State.respond_rbW (s : State) (status : Status) (rdata : Word) :
    (s.respond status rdata).rbW = s.rbW := rfl
@[simp] theorem State.respond_rbR (s : State) (status : Status) (rdata : Word) :
    (s.respond status rdata).rbR = s.rbR := rfl
@[simp] theorem State.respond_rbPos (s : State) (status : Status) (rdata : Word) :
    (s.respond status rdata).rbPos = s.rbPos := rfl
@[simp] theorem State.respond_rbFreed (s : State) (status : Status) (rdata : Word) :
    (s.respond status rdata).rbFreed = s.rbFreed := rfl
@[simp] theorem State.respond_store (s : State) (status : Status) (rdata : Word) :
    (s.respond status rdata).store = s.store := rfl
@[simp] theorem State.respond_tcEn (s : State) (status : Status) (rdata : Word) :
    (s.respond status rdata).tcEn = s.tcEn := rfl
@[simp] theorem State.respond_tcPeriod (s : State) (status : Status) (rdata : Word) :
    (s.respond status rdata).tcPeriod = s.tcPeriod := rfl
@[simp] theorem State.respond_dacL (s : State) (status : Status) (rdata : Word) :
    (s.respond status rdata).dacL = s.dacL := rfl
@[simp] theorem State.respond_dacR (s : State) (status : Status) (rdata : Word) :
    (s.respond status rdata).dacR = s.dacR := rfl
@[simp] theorem State.respond_lfo (s : State) (status : Status) (rdata : Word) :
    (s.respond status rdata).lfo = s.lfo := rfl
@[simp] theorem State.respond_glide (s : State) (status : Status) (rdata : Word) :
    (s.respond status rdata).glide = s.glide := rfl
@[simp] theorem State.respond_response (s : State) (status : Status) (rdata : Word) :
    (s.respond status rdata).response = some { status := status, rdata := rdata } := rfl
@[simp] theorem State.respond_schedule (s : State) (status : Status) (rdata : Word) :
    (s.respond status rdata).schedule = s.schedule := rfl
@[simp] theorem State.respond_draws (s : State) (status : Status) (rdata : Word) :
    (s.respond status rdata).draws = s.draws := rfl
@[simp] theorem State.respond_occ (s : State) (status : Status) (rdata : Word) :
    (s.respond status rdata).occ = s.occ := rfl
@[simp] theorem State.respond_readable (s : State) (status : Status) (rdata : Word) :
    (s.respond status rdata).readable = s.readable := rfl
@[simp] theorem State.respond_writable (s : State) (status : Status) (rdata : Word) :
    (s.respond status rdata).writable = s.writable := rfl
@[simp] theorem State.respond_wblk (s : State) (status : Status) (rdata : Word) :
    (s.respond status rdata).wblk = s.wblk := rfl
@[simp] theorem State.respond_rblk (s : State) (status : Status) (rdata : Word) :
    (s.respond status rdata).rblk = s.rblk := rfl
@[simp] theorem State.respond_ticksToUnderrun (s : State) (status : Status) (rdata : Word) :
    (s.respond status rdata).ticksToUnderrun = s.ticksToUnderrun := rfl

/-! ## setGlide -/

@[simp] theorem State.setGlide_cfg (s : State) (ch : ChannelNo) (g : Glide) :
    (s.setGlide ch g).cfg = s.cfg := rfl
@[simp] theorem State.setGlide_rbW (s : State) (ch : ChannelNo) (g : Glide) :
    (s.setGlide ch g).rbW = s.rbW := rfl
@[simp] theorem State.setGlide_rbR (s : State) (ch : ChannelNo) (g : Glide) :
    (s.setGlide ch g).rbR = s.rbR := rfl
@[simp] theorem State.setGlide_rbPos (s : State) (ch : ChannelNo) (g : Glide) :
    (s.setGlide ch g).rbPos = s.rbPos := rfl
@[simp] theorem State.setGlide_rbFreed (s : State) (ch : ChannelNo) (g : Glide) :
    (s.setGlide ch g).rbFreed = s.rbFreed := rfl
@[simp] theorem State.setGlide_store (s : State) (ch : ChannelNo) (g : Glide) :
    (s.setGlide ch g).store = s.store := rfl
@[simp] theorem State.setGlide_tcEn (s : State) (ch : ChannelNo) (g : Glide) :
    (s.setGlide ch g).tcEn = s.tcEn := rfl
@[simp] theorem State.setGlide_tcPeriod (s : State) (ch : ChannelNo) (g : Glide) :
    (s.setGlide ch g).tcPeriod = s.tcPeriod := rfl
@[simp] theorem State.setGlide_dacL (s : State) (ch : ChannelNo) (g : Glide) :
    (s.setGlide ch g).dacL = s.dacL := rfl
@[simp] theorem State.setGlide_dacR (s : State) (ch : ChannelNo) (g : Glide) :
    (s.setGlide ch g).dacR = s.dacR := rfl
@[simp] theorem State.setGlide_lfo (s : State) (ch : ChannelNo) (g : Glide) :
    (s.setGlide ch g).lfo = s.lfo := rfl
@[simp] theorem State.setGlide_glide (s : State) (ch : ChannelNo) (g : Glide) :
    (s.setGlide ch g).glide = s.glide.set ch.toNat g := rfl
@[simp] theorem State.setGlide_response (s : State) (ch : ChannelNo) (g : Glide) :
    (s.setGlide ch g).response = s.response := rfl
@[simp] theorem State.setGlide_schedule (s : State) (ch : ChannelNo) (g : Glide) :
    (s.setGlide ch g).schedule = s.schedule := rfl
@[simp] theorem State.setGlide_draws (s : State) (ch : ChannelNo) (g : Glide) :
    (s.setGlide ch g).draws = s.draws := rfl
@[simp] theorem State.setGlide_occ (s : State) (ch : ChannelNo) (g : Glide) :
    (s.setGlide ch g).occ = s.occ := rfl
@[simp] theorem State.setGlide_readable (s : State) (ch : ChannelNo) (g : Glide) :
    (s.setGlide ch g).readable = s.readable := rfl
@[simp] theorem State.setGlide_writable (s : State) (ch : ChannelNo) (g : Glide) :
    (s.setGlide ch g).writable = s.writable := rfl
@[simp] theorem State.setGlide_wblk (s : State) (ch : ChannelNo) (g : Glide) :
    (s.setGlide ch g).wblk = s.wblk := rfl
@[simp] theorem State.setGlide_rblk (s : State) (ch : ChannelNo) (g : Glide) :
    (s.setGlide ch g).rblk = s.rblk := rfl
@[simp] theorem State.setGlide_ticksToUnderrun (s : State) (ch : ChannelNo) (g : Glide) :
    (s.setGlide ch g).ticksToUnderrun = s.ticksToUnderrun := rfl

/-! ## setLfo -/

@[simp] theorem State.setLfo_cfg (s : State) (ch : ChannelNo) (l : Lfo) :
    (s.setLfo ch l).cfg = s.cfg := rfl
@[simp] theorem State.setLfo_rbW (s : State) (ch : ChannelNo) (l : Lfo) :
    (s.setLfo ch l).rbW = s.rbW := rfl
@[simp] theorem State.setLfo_rbR (s : State) (ch : ChannelNo) (l : Lfo) :
    (s.setLfo ch l).rbR = s.rbR := rfl
@[simp] theorem State.setLfo_rbPos (s : State) (ch : ChannelNo) (l : Lfo) :
    (s.setLfo ch l).rbPos = s.rbPos := rfl
@[simp] theorem State.setLfo_rbFreed (s : State) (ch : ChannelNo) (l : Lfo) :
    (s.setLfo ch l).rbFreed = s.rbFreed := rfl
@[simp] theorem State.setLfo_store (s : State) (ch : ChannelNo) (l : Lfo) :
    (s.setLfo ch l).store = s.store := rfl
@[simp] theorem State.setLfo_tcEn (s : State) (ch : ChannelNo) (l : Lfo) :
    (s.setLfo ch l).tcEn = s.tcEn := rfl
@[simp] theorem State.setLfo_tcPeriod (s : State) (ch : ChannelNo) (l : Lfo) :
    (s.setLfo ch l).tcPeriod = s.tcPeriod := rfl
@[simp] theorem State.setLfo_dacL (s : State) (ch : ChannelNo) (l : Lfo) :
    (s.setLfo ch l).dacL = s.dacL := rfl
@[simp] theorem State.setLfo_dacR (s : State) (ch : ChannelNo) (l : Lfo) :
    (s.setLfo ch l).dacR = s.dacR := rfl
@[simp] theorem State.setLfo_lfo (s : State) (ch : ChannelNo) (l : Lfo) :
    (s.setLfo ch l).lfo = s.lfo.setIfInBounds ch.toNat l := rfl
@[simp] theorem State.setLfo_glide (s : State) (ch : ChannelNo) (l : Lfo) :
    (s.setLfo ch l).glide = s.glide := rfl
@[simp] theorem State.setLfo_response (s : State) (ch : ChannelNo) (l : Lfo) :
    (s.setLfo ch l).response = s.response := rfl
@[simp] theorem State.setLfo_schedule (s : State) (ch : ChannelNo) (l : Lfo) :
    (s.setLfo ch l).schedule = s.schedule := rfl
@[simp] theorem State.setLfo_draws (s : State) (ch : ChannelNo) (l : Lfo) :
    (s.setLfo ch l).draws = s.draws := rfl
@[simp] theorem State.setLfo_occ (s : State) (ch : ChannelNo) (l : Lfo) :
    (s.setLfo ch l).occ = s.occ := rfl
@[simp] theorem State.setLfo_readable (s : State) (ch : ChannelNo) (l : Lfo) :
    (s.setLfo ch l).readable = s.readable := rfl
@[simp] theorem State.setLfo_writable (s : State) (ch : ChannelNo) (l : Lfo) :
    (s.setLfo ch l).writable = s.writable := rfl
@[simp] theorem State.setLfo_wblk (s : State) (ch : ChannelNo) (l : Lfo) :
    (s.setLfo ch l).wblk = s.wblk := rfl
@[simp] theorem State.setLfo_rblk (s : State) (ch : ChannelNo) (l : Lfo) :
    (s.setLfo ch l).rblk = s.rblk := rfl
@[simp] theorem State.setLfo_ticksToUnderrun (s : State) (ch : ChannelNo) (l : Lfo) :
    (s.setLfo ch l).ticksToUnderrun = s.ticksToUnderrun := rfl

/-! ## takeDraws -/

@[simp] theorem State.takeDraws_cfg (s : State) (n : Nat) :
    (s.takeDraws n).cfg = s.cfg := rfl
@[simp] theorem State.takeDraws_rbW (s : State) (n : Nat) :
    (s.takeDraws n).rbW = s.rbW := rfl
@[simp] theorem State.takeDraws_rbR (s : State) (n : Nat) :
    (s.takeDraws n).rbR = s.rbR := rfl
@[simp] theorem State.takeDraws_rbPos (s : State) (n : Nat) :
    (s.takeDraws n).rbPos = s.rbPos := rfl
@[simp] theorem State.takeDraws_rbFreed (s : State) (n : Nat) :
    (s.takeDraws n).rbFreed = s.rbFreed := rfl
@[simp] theorem State.takeDraws_store (s : State) (n : Nat) :
    (s.takeDraws n).store = s.store := rfl
@[simp] theorem State.takeDraws_tcEn (s : State) (n : Nat) :
    (s.takeDraws n).tcEn = s.tcEn := rfl
@[simp] theorem State.takeDraws_tcPeriod (s : State) (n : Nat) :
    (s.takeDraws n).tcPeriod = s.tcPeriod := rfl
@[simp] theorem State.takeDraws_dacL (s : State) (n : Nat) :
    (s.takeDraws n).dacL = s.dacL := rfl
@[simp] theorem State.takeDraws_dacR (s : State) (n : Nat) :
    (s.takeDraws n).dacR = s.dacR := rfl
@[simp] theorem State.takeDraws_lfo (s : State) (n : Nat) :
    (s.takeDraws n).lfo = s.lfo := rfl
@[simp] theorem State.takeDraws_glide (s : State) (n : Nat) :
    (s.takeDraws n).glide = s.glide := rfl
@[simp] theorem State.takeDraws_response (s : State) (n : Nat) :
    (s.takeDraws n).response = s.response := rfl
@[simp] theorem State.takeDraws_schedule (s : State) (n : Nat) :
    (s.takeDraws n).schedule = s.schedule := rfl
@[simp] theorem State.takeDraws_draws (s : State) (n : Nat) :
    (s.takeDraws n).draws = s.draws + n := rfl
@[simp] theorem State.takeDraws_occ (s : State) (n : Nat) :
    (s.takeDraws n).occ = s.occ := rfl
@[simp] theorem State.takeDraws_readable (s : State) (n : Nat) :
    (s.takeDraws n).readable = s.readable := rfl
@[simp] theorem State.takeDraws_writable (s : State) (n : Nat) :
    (s.takeDraws n).writable = s.writable := rfl
@[simp] theorem State.takeDraws_wblk (s : State) (n : Nat) :
    (s.takeDraws n).wblk = s.wblk := rfl
@[simp] theorem State.takeDraws_rblk (s : State) (n : Nat) :
    (s.takeDraws n).rblk = s.rblk := rfl
@[simp] theorem State.takeDraws_ticksToUnderrun (s : State) (n : Nat) :
    (s.takeDraws n).ticksToUnderrun = s.ticksToUnderrun := rfl

/-! ## writeSample -/

@[simp] theorem State.writeSample_cfg (s : State) (a : Nat) (v : Word) :
    (s.writeSample a v).cfg = s.cfg := rfl
@[simp] theorem State.writeSample_rbW (s : State) (a : Nat) (v : Word) :
    (s.writeSample a v).rbW = s.rbW := rfl
@[simp] theorem State.writeSample_rbR (s : State) (a : Nat) (v : Word) :
    (s.writeSample a v).rbR = s.rbR := rfl
@[simp] theorem State.writeSample_rbPos (s : State) (a : Nat) (v : Word) :
    (s.writeSample a v).rbPos = s.rbPos := rfl
@[simp] theorem State.writeSample_rbFreed (s : State) (a : Nat) (v : Word) :
    (s.writeSample a v).rbFreed = s.rbFreed := rfl
@[simp] theorem State.writeSample_store (s : State) (a : Nat) (v : Word) :
    (s.writeSample a v).store = s.store.write a v := rfl
@[simp] theorem State.writeSample_tcEn (s : State) (a : Nat) (v : Word) :
    (s.writeSample a v).tcEn = s.tcEn := rfl
@[simp] theorem State.writeSample_tcPeriod (s : State) (a : Nat) (v : Word) :
    (s.writeSample a v).tcPeriod = s.tcPeriod := rfl
@[simp] theorem State.writeSample_dacL (s : State) (a : Nat) (v : Word) :
    (s.writeSample a v).dacL = s.dacL := rfl
@[simp] theorem State.writeSample_dacR (s : State) (a : Nat) (v : Word) :
    (s.writeSample a v).dacR = s.dacR := rfl
@[simp] theorem State.writeSample_lfo (s : State) (a : Nat) (v : Word) :
    (s.writeSample a v).lfo = s.lfo := rfl
@[simp] theorem State.writeSample_glide (s : State) (a : Nat) (v : Word) :
    (s.writeSample a v).glide = s.glide := rfl
@[simp] theorem State.writeSample_response (s : State) (a : Nat) (v : Word) :
    (s.writeSample a v).response = s.response := rfl
@[simp] theorem State.writeSample_schedule (s : State) (a : Nat) (v : Word) :
    (s.writeSample a v).schedule = s.schedule := rfl
@[simp] theorem State.writeSample_draws (s : State) (a : Nat) (v : Word) :
    (s.writeSample a v).draws = s.draws := rfl
@[simp] theorem State.writeSample_occ (s : State) (a : Nat) (v : Word) :
    (s.writeSample a v).occ = s.occ := rfl
@[simp] theorem State.writeSample_readable (s : State) (a : Nat) (v : Word) :
    (s.writeSample a v).readable = s.readable := rfl
@[simp] theorem State.writeSample_writable (s : State) (a : Nat) (v : Word) :
    (s.writeSample a v).writable = s.writable := rfl
@[simp] theorem State.writeSample_wblk (s : State) (a : Nat) (v : Word) :
    (s.writeSample a v).wblk = s.wblk := rfl
@[simp] theorem State.writeSample_rblk (s : State) (a : Nat) (v : Word) :
    (s.writeSample a v).rblk = s.rblk := rfl
@[simp] theorem State.writeSample_ticksToUnderrun (s : State) (a : Nat) (v : Word) :
    (s.writeSample a v).ticksToUnderrun = s.ticksToUnderrun := rfl

/-! ## advanceW -/

@[simp] theorem State.advanceW_cfg (s : State) :
    (s.advanceW).cfg = s.cfg := rfl
@[simp] theorem State.advanceW_rbW (s : State) :
    (s.advanceW).rbW = cursorNext s.cfg.numBlocks s.rbW := rfl
@[simp] theorem State.advanceW_rbR (s : State) :
    (s.advanceW).rbR = s.rbR := rfl
@[simp] theorem State.advanceW_rbPos (s : State) :
    (s.advanceW).rbPos = s.rbPos := rfl
@[simp] theorem State.advanceW_rbFreed (s : State) :
    (s.advanceW).rbFreed = s.rbFreed := rfl
@[simp] theorem State.advanceW_store (s : State) :
    (s.advanceW).store = s.store := rfl
@[simp] theorem State.advanceW_tcEn (s : State) :
    (s.advanceW).tcEn = s.tcEn := rfl
@[simp] theorem State.advanceW_tcPeriod (s : State) :
    (s.advanceW).tcPeriod = s.tcPeriod := rfl
@[simp] theorem State.advanceW_dacL (s : State) :
    (s.advanceW).dacL = s.dacL := rfl
@[simp] theorem State.advanceW_dacR (s : State) :
    (s.advanceW).dacR = s.dacR := rfl
@[simp] theorem State.advanceW_lfo (s : State) :
    (s.advanceW).lfo = s.lfo := rfl
@[simp] theorem State.advanceW_glide (s : State) :
    (s.advanceW).glide = s.glide := rfl
@[simp] theorem State.advanceW_response (s : State) :
    (s.advanceW).response = s.response := rfl
@[simp] theorem State.advanceW_schedule (s : State) :
    (s.advanceW).schedule = s.schedule := rfl
@[simp] theorem State.advanceW_draws (s : State) :
    (s.advanceW).draws = s.draws := rfl
@[simp] theorem State.advanceW_rblk (s : State) :
    (s.advanceW).rblk = s.rblk := rfl

/-! ## advanceRead -/

@[simp] theorem State.advanceRead_cfg (s : State) :
    (s.advanceRead).cfg = s.cfg := rfl
@[simp] theorem State.advanceRead_rbW (s : State) :
    (s.advanceRead).rbW = s.rbW := rfl
@[simp] theorem State.advanceRead_store (s : State) :
    (s.advanceRead).store = s.store := rfl
@[simp] theorem State.advanceRead_tcEn (s : State) :
    (s.advanceRead).tcEn = s.tcEn := rfl
@[simp] theorem State.advanceRead_tcPeriod (s : State) :
    (s.advanceRead).tcPeriod = s.tcPeriod := rfl
@[simp] theorem State.advanceRead_dacL (s : State) :
    (s.advanceRead).dacL = s.dacL := rfl
@[simp] theorem State.advanceRead_dacR (s : State) :
    (s.advanceRead).dacR = s.dacR := rfl
@[simp] theorem State.advanceRead_lfo (s : State) :
    (s.advanceRead).lfo = s.lfo := rfl
@[simp] theorem State.advanceRead_glide (s : State) :
    (s.advanceRead).glide = s.glide := rfl
@[simp] theorem State.advanceRead_response (s : State) :
    (s.advanceRead).response = s.response := rfl
@[simp] theorem State.advanceRead_schedule (s : State) :
    (s.advanceRead).schedule = s.schedule := rfl
@[simp] theorem State.advanceRead_draws (s : State) :
    (s.advanceRead).draws = s.draws := rfl
@[simp] theorem State.advanceRead_rbPos (s : State) :
    (s.advanceRead).rbPos = if s.atBlockEnd then 0 else s.rbPos + 1 := rfl
@[simp] theorem State.advanceRead_rbR (s : State) :
    (s.advanceRead).rbR = if s.atBlockEnd then cursorNext s.cfg.numBlocks s.rbR else s.rbR := rfl
@[simp] theorem State.advanceRead_rbFreed (s : State) :
    (s.advanceRead).rbFreed = if s.atBlockEnd then true else s.rbFreed := rfl
@[simp] theorem State.advanceRead_wblk (s : State) :
    (s.advanceRead).wblk = s.wblk := rfl

/-! ## clearFreed -/

@[simp] theorem State.clearFreed_cfg (s : State) :
    (s.clearFreed).cfg = s.cfg := rfl
@[simp] theorem State.clearFreed_rbW (s : State) :
    (s.clearFreed).rbW = s.rbW := rfl
@[simp] theorem State.clearFreed_rbR (s : State) :
    (s.clearFreed).rbR = s.rbR := rfl
@[simp] theorem State.clearFreed_rbPos (s : State) :
    (s.clearFreed).rbPos = s.rbPos := rfl
@[simp] theorem State.clearFreed_rbFreed (s : State) :
    (s.clearFreed).rbFreed = false := rfl
@[simp] theorem State.clearFreed_store (s : State) :
    (s.clearFreed).store = s.store := rfl
@[simp] theorem State.clearFreed_tcEn (s : State) :
    (s.clearFreed).tcEn = s.tcEn := rfl
@[simp] theorem State.clearFreed_tcPeriod (s : State) :
    (s.clearFreed).tcPeriod = s.tcPeriod := rfl
@[simp] theorem State.clearFreed_dacL (s : State) :
    (s.clearFreed).dacL = s.dacL := rfl
@[simp] theorem State.clearFreed_dacR (s : State) :
    (s.clearFreed).dacR = s.dacR := rfl
@[simp] theorem State.clearFreed_lfo (s : State) :
    (s.clearFreed).lfo = s.lfo := rfl
@[simp] theorem State.clearFreed_glide (s : State) :
    (s.clearFreed).glide = s.glide := rfl
@[simp] theorem State.clearFreed_response (s : State) :
    (s.clearFreed).response = s.response := rfl
@[simp] theorem State.clearFreed_schedule (s : State) :
    (s.clearFreed).schedule = s.schedule := rfl
@[simp] theorem State.clearFreed_draws (s : State) :
    (s.clearFreed).draws = s.draws := rfl
@[simp] theorem State.clearFreed_occ (s : State) :
    (s.clearFreed).occ = s.occ := rfl
@[simp] theorem State.clearFreed_readable (s : State) :
    (s.clearFreed).readable = s.readable := rfl
@[simp] theorem State.clearFreed_writable (s : State) :
    (s.clearFreed).writable = s.writable := rfl
@[simp] theorem State.clearFreed_wblk (s : State) :
    (s.clearFreed).wblk = s.wblk := rfl
@[simp] theorem State.clearFreed_rblk (s : State) :
    (s.clearFreed).rblk = s.rblk := rfl
@[simp] theorem State.clearFreed_ticksToUnderrun (s : State) :
    (s.clearFreed).ticksToUnderrun = s.ticksToUnderrun := rfl

/-! ## setDac -/

@[simp] theorem State.setDac_cfg (s : State) (v : Word) :
    (s.setDac v).cfg = s.cfg := rfl
@[simp] theorem State.setDac_rbW (s : State) (v : Word) :
    (s.setDac v).rbW = s.rbW := rfl
@[simp] theorem State.setDac_rbR (s : State) (v : Word) :
    (s.setDac v).rbR = s.rbR := rfl
@[simp] theorem State.setDac_rbPos (s : State) (v : Word) :
    (s.setDac v).rbPos = s.rbPos := rfl
@[simp] theorem State.setDac_rbFreed (s : State) (v : Word) :
    (s.setDac v).rbFreed = s.rbFreed := rfl
@[simp] theorem State.setDac_store (s : State) (v : Word) :
    (s.setDac v).store = s.store := rfl
@[simp] theorem State.setDac_tcEn (s : State) (v : Word) :
    (s.setDac v).tcEn = s.tcEn := rfl
@[simp] theorem State.setDac_tcPeriod (s : State) (v : Word) :
    (s.setDac v).tcPeriod = s.tcPeriod := rfl
@[simp] theorem State.setDac_dacL (s : State) (v : Word) :
    (s.setDac v).dacL = sampleLeft v := rfl
@[simp] theorem State.setDac_dacR (s : State) (v : Word) :
    (s.setDac v).dacR = sampleRight v := rfl
@[simp] theorem State.setDac_lfo (s : State) (v : Word) :
    (s.setDac v).lfo = s.lfo := rfl
@[simp] theorem State.setDac_glide (s : State) (v : Word) :
    (s.setDac v).glide = s.glide := rfl
@[simp] theorem State.setDac_response (s : State) (v : Word) :
    (s.setDac v).response = s.response := rfl
@[simp] theorem State.setDac_schedule (s : State) (v : Word) :
    (s.setDac v).schedule = s.schedule := rfl
@[simp] theorem State.setDac_draws (s : State) (v : Word) :
    (s.setDac v).draws = s.draws := rfl
@[simp] theorem State.setDac_occ (s : State) (v : Word) :
    (s.setDac v).occ = s.occ := rfl
@[simp] theorem State.setDac_readable (s : State) (v : Word) :
    (s.setDac v).readable = s.readable := rfl
@[simp] theorem State.setDac_writable (s : State) (v : Word) :
    (s.setDac v).writable = s.writable := rfl
@[simp] theorem State.setDac_wblk (s : State) (v : Word) :
    (s.setDac v).wblk = s.wblk := rfl
@[simp] theorem State.setDac_rblk (s : State) (v : Word) :
    (s.setDac v).rblk = s.rblk := rfl
@[simp] theorem State.setDac_ticksToUnderrun (s : State) (v : Word) :
    (s.setDac v).ticksToUnderrun = s.ticksToUnderrun := rfl

/-! ## setPeriod -/

@[simp] theorem State.setPeriod_cfg (s : State) (period : Word) :
    (s.setPeriod period).cfg = s.cfg := rfl
@[simp] theorem State.setPeriod_rbW (s : State) (period : Word) :
    (s.setPeriod period).rbW = s.rbW := rfl
@[simp] theorem State.setPeriod_rbR (s : State) (period : Word) :
    (s.setPeriod period).rbR = s.rbR := rfl
@[simp] theorem State.setPeriod_rbPos (s : State) (period : Word) :
    (s.setPeriod period).rbPos = s.rbPos := rfl
@[simp] theorem State.setPeriod_rbFreed (s : State) (period : Word) :
    (s.setPeriod period).rbFreed = s.rbFreed := rfl
@[simp] theorem State.setPeriod_store (s : State) (period : Word) :
    (s.setPeriod period).store = s.store := rfl
@[simp] theorem State.setPeriod_tcEn (s : State) (period : Word) :
    (s.setPeriod period).tcEn = s.tcEn := rfl
@[simp] theorem State.setPeriod_tcPeriod (s : State) (period : Word) :
    (s.setPeriod period).tcPeriod = period := rfl
@[simp] theorem State.setPeriod_dacL (s : State) (period : Word) :
    (s.setPeriod period).dacL = s.dacL := rfl
@[simp] theorem State.setPeriod_dacR (s : State) (period : Word) :
    (s.setPeriod period).dacR = s.dacR := rfl
@[simp] theorem State.setPeriod_lfo (s : State) (period : Word) :
    (s.setPeriod period).lfo = s.lfo := rfl
@[simp] theorem State.setPeriod_glide (s : State) (period : Word) :
    (s.setPeriod period).glide = s.glide := rfl
@[simp] theorem State.setPeriod_response (s : State) (period : Word) :
    (s.setPeriod period).response = s.response := rfl
@[simp] theorem State.setPeriod_schedule (s : State) (period : Word) :
    (s.setPeriod period).schedule = s.schedule := rfl
@[simp] theorem State.setPeriod_draws (s : State) (period : Word) :
    (s.setPeriod period).draws = s.draws := rfl
@[simp] theorem State.setPeriod_occ (s : State) (period : Word) :
    (s.setPeriod period).occ = s.occ := rfl
@[simp] theorem State.setPeriod_readable (s : State) (period : Word) :
    (s.setPeriod period).readable = s.readable := rfl
@[simp] theorem State.setPeriod_writable (s : State) (period : Word) :
    (s.setPeriod period).writable = s.writable := rfl
@[simp] theorem State.setPeriod_wblk (s : State) (period : Word) :
    (s.setPeriod period).wblk = s.wblk := rfl
@[simp] theorem State.setPeriod_rblk (s : State) (period : Word) :
    (s.setPeriod period).rblk = s.rblk := rfl
@[simp] theorem State.setPeriod_ticksToUnderrun (s : State) (period : Word) :
    (s.setPeriod period).ticksToUnderrun = s.ticksToUnderrun := rfl

/-! ## setEnable -/

@[simp] theorem State.setEnable_cfg (s : State) (en : Bool) :
    (s.setEnable en).cfg = s.cfg := rfl
@[simp] theorem State.setEnable_rbW (s : State) (en : Bool) :
    (s.setEnable en).rbW = s.rbW := rfl
@[simp] theorem State.setEnable_rbR (s : State) (en : Bool) :
    (s.setEnable en).rbR = s.rbR := rfl
@[simp] theorem State.setEnable_rbPos (s : State) (en : Bool) :
    (s.setEnable en).rbPos = s.rbPos := rfl
@[simp] theorem State.setEnable_rbFreed (s : State) (en : Bool) :
    (s.setEnable en).rbFreed = s.rbFreed := rfl
@[simp] theorem State.setEnable_store (s : State) (en : Bool) :
    (s.setEnable en).store = s.store := rfl
@[simp] theorem State.setEnable_tcEn (s : State) (en : Bool) :
    (s.setEnable en).tcEn = en := rfl
@[simp] theorem State.setEnable_tcPeriod (s : State) (en : Bool) :
    (s.setEnable en).tcPeriod = s.tcPeriod := rfl
@[simp] theorem State.setEnable_dacL (s : State) (en : Bool) :
    (s.setEnable en).dacL = s.dacL := rfl
@[simp] theorem State.setEnable_dacR (s : State) (en : Bool) :
    (s.setEnable en).dacR = s.dacR := rfl
@[simp] theorem State.setEnable_lfo (s : State) (en : Bool) :
    (s.setEnable en).lfo = s.lfo := rfl
@[simp] theorem State.setEnable_glide (s : State) (en : Bool) :
    (s.setEnable en).glide = s.glide := rfl
@[simp] theorem State.setEnable_response (s : State) (en : Bool) :
    (s.setEnable en).response = s.response := rfl
@[simp] theorem State.setEnable_schedule (s : State) (en : Bool) :
    (s.setEnable en).schedule = s.schedule := rfl
@[simp] theorem State.setEnable_draws (s : State) (en : Bool) :
    (s.setEnable en).draws = s.draws := rfl
@[simp] theorem State.setEnable_occ (s : State) (en : Bool) :
    (s.setEnable en).occ = s.occ := rfl
@[simp] theorem State.setEnable_readable (s : State) (en : Bool) :
    (s.setEnable en).readable = s.readable := rfl
@[simp] theorem State.setEnable_writable (s : State) (en : Bool) :
    (s.setEnable en).writable = s.writable := rfl
@[simp] theorem State.setEnable_wblk (s : State) (en : Bool) :
    (s.setEnable en).wblk = s.wblk := rfl
@[simp] theorem State.setEnable_rblk (s : State) (en : Bool) :
    (s.setEnable en).rblk = s.rblk := rfl
@[simp] theorem State.setEnable_ticksToUnderrun (s : State) (en : Bool) :
    (s.setEnable en).ticksToUnderrun = s.ticksToUnderrun := rfl

/-! ## dropStep -/

@[simp] theorem State.dropStep_cfg (s : State) :
    (s.dropStep).cfg = s.cfg := rfl
@[simp] theorem State.dropStep_rbW (s : State) :
    (s.dropStep).rbW = s.rbW := rfl
@[simp] theorem State.dropStep_rbR (s : State) :
    (s.dropStep).rbR = s.rbR := rfl
@[simp] theorem State.dropStep_rbPos (s : State) :
    (s.dropStep).rbPos = s.rbPos := rfl
@[simp] theorem State.dropStep_rbFreed (s : State) :
    (s.dropStep).rbFreed = s.rbFreed := rfl
@[simp] theorem State.dropStep_store (s : State) :
    (s.dropStep).store = s.store := rfl
@[simp] theorem State.dropStep_tcEn (s : State) :
    (s.dropStep).tcEn = s.tcEn := rfl
@[simp] theorem State.dropStep_tcPeriod (s : State) :
    (s.dropStep).tcPeriod = s.tcPeriod := rfl
@[simp] theorem State.dropStep_dacL (s : State) :
    (s.dropStep).dacL = s.dacL := rfl
@[simp] theorem State.dropStep_dacR (s : State) :
    (s.dropStep).dacR = s.dacR := rfl
@[simp] theorem State.dropStep_lfo (s : State) :
    (s.dropStep).lfo = s.lfo := rfl
@[simp] theorem State.dropStep_glide (s : State) :
    (s.dropStep).glide = s.glide := rfl
@[simp] theorem State.dropStep_response (s : State) :
    (s.dropStep).response = s.response := rfl
@[simp] theorem State.dropStep_schedule (s : State) :
    (s.dropStep).schedule = s.schedule.tail := rfl
@[simp] theorem State.dropStep_draws (s : State) :
    (s.dropStep).draws = s.draws := rfl
@[simp] theorem State.dropStep_occ (s : State) :
    (s.dropStep).occ = s.occ := rfl
@[simp] theorem State.dropStep_readable (s : State) :
    (s.dropStep).readable = s.readable := rfl
@[simp] theorem State.dropStep_writable (s : State) :
    (s.dropStep).writable = s.writable := rfl
@[simp] theorem State.dropStep_wblk (s : State) :
    (s.dropStep).wblk = s.wblk := rfl
@[simp] theorem State.dropStep_rblk (s : State) :
    (s.dropStep).rblk = s.rblk := rfl
@[simp] theorem State.dropStep_ticksToUnderrun (s : State) :
    (s.dropStep).ticksToUnderrun = s.ticksToUnderrun := rfl

/-! ## present -/

@[simp] theorem State.present_cfg (s : State) (cmd data : Word) :
    (s.present cmd data).cfg = s.cfg := rfl
@[simp] theorem State.present_rbW (s : State) (cmd data : Word) :
    (s.present cmd data).rbW = s.rbW := rfl
@[simp] theorem State.present_rbR (s : State) (cmd data : Word) :
    (s.present cmd data).rbR = s.rbR := rfl
@[simp] theorem State.present_rbPos (s : State) (cmd data : Word) :
    (s.present cmd data).rbPos = s.rbPos := rfl
@[simp] theorem State.present_rbFreed (s : State) (cmd data : Word) :
    (s.present cmd data).rbFreed = s.rbFreed := rfl
@[simp] theorem State.present_store (s : State) (cmd data : Word) :
    (s.present cmd data).store = s.store := rfl
@[simp] theorem State.present_tcEn (s : State) (cmd data : Word) :
    (s.present cmd data).tcEn = s.tcEn := rfl
@[simp] theorem State.present_tcPeriod (s : State) (cmd data : Word) :
    (s.present cmd data).tcPeriod = s.tcPeriod := rfl
@[simp] theorem State.present_dacL (s : State) (cmd data : Word) :
    (s.present cmd data).dacL = s.dacL := rfl
@[simp] theorem State.present_dacR (s : State) (cmd data : Word) :
    (s.present cmd data).dacR = s.dacR := rfl
@[simp] theorem State.present_lfo (s : State) (cmd data : Word) :
    (s.present cmd data).lfo = s.lfo := rfl
@[simp] theorem State.present_glide (s : State) (cmd data : Word) :
    (s.present cmd data).glide = s.glide := rfl
@[simp] theorem State.present_response (s : State) (cmd data : Word) :
    (s.present cmd data).response = s.response := rfl
@[simp] theorem State.present_schedule (s : State) (cmd data : Word) :
    (s.present cmd data).schedule = .host cmd data :: s.schedule := rfl
@[simp] theorem State.present_draws (s : State) (cmd data : Word) :
    (s.present cmd data).draws = s.draws := rfl
@[simp] theorem State.present_occ (s : State) (cmd data : Word) :
    (s.present cmd data).occ = s.occ := rfl
@[simp] theorem State.present_readable (s : State) (cmd data : Word) :
    (s.present cmd data).readable = s.readable := rfl
@[simp] theorem State.present_writable (s : State) (cmd data : Word) :
    (s.present cmd data).writable = s.writable := rfl
@[simp] theorem State.present_wblk (s : State) (cmd data : Word) :
    (s.present cmd data).wblk = s.wblk := rfl
@[simp] theorem State.present_rblk (s : State) (cmd data : Word) :
    (s.present cmd data).rblk = s.rblk := rfl
@[simp] theorem State.present_ticksToUnderrun (s : State) (cmd data : Word) :
    (s.present cmd data).ticksToUnderrun = s.ticksToUnderrun := rfl

/-! ## reset -/

@[simp] theorem State.resetWith_cfg (cfg : Config) : (State.resetWith cfg).cfg = cfg := rfl
@[simp] theorem State.resetWith_rbW (cfg : Config) : (State.resetWith cfg).rbW = 0 := rfl
@[simp] theorem State.resetWith_rbR (cfg : Config) : (State.resetWith cfg).rbR = 0 := rfl
@[simp] theorem State.resetWith_rbPos (cfg : Config) : (State.resetWith cfg).rbPos = 0 := rfl
@[simp] theorem State.resetWith_rbFreed (cfg : Config) : (State.resetWith cfg).rbFreed = false := rfl
@[simp] theorem State.resetWith_store (cfg : Config) : (State.resetWith cfg).store = [] := rfl
@[simp] theorem State.resetWith_tcEn (cfg : Config) : (State.resetWith cfg).tcEn = false := rfl
@[simp] theorem State.resetWith_tcPeriod (cfg : Config) : (State.resetWith cfg).tcPeriod = 0 := rfl
@[simp] theorem State.resetWith_dacL (cfg : Config) : (State.resetWith cfg).dacL = 0 := rfl
@[simp] theorem State.resetWith_dacR (cfg : Config) : (State.resetWith cfg).dacR = 0 := rfl
@[simp] theorem State.resetWith_lfo (cfg : Config) : (State.resetWith cfg).lfo = Vector.replicate 3 Lfo.atReset := rfl
@[simp] theorem State.resetWith_glide (cfg : Config) : (State.resetWith cfg).glide = List.replicate cfg.numGlide Glide.atReset := rfl
@[simp] theorem State.resetWith_response (cfg : Config) : (State.resetWith cfg).response = none := rfl
@[simp] theorem State.resetWith_schedule (cfg : Config) : (State.resetWith cfg).schedule = [] := rfl
@[simp] theorem State.resetWith_draws (cfg : Config) : (State.resetWith cfg).draws = 0 := rfl

end Sys2Proof.Machine
end

