-- ==== Sys2Proof/Laws/Memory.lean ====
section
/-! SUPPORT. The laws of the sample store: a read after a write, and the canonical form. -/

namespace Sys2Proof.Machine

@[simp] theorem Memory.read?_nil (a : Nat) : Memory.read? [] a = none := rfl

theorem Memory.read?_write_same (m : Memory) (a : Nat) (v : Word) : (m.write a v).read? a = some v := by
  induction m with
  | nil => simp [Memory.write, Memory.read?]
  | cons cell rest ih =>
    obtain ⟨k, w⟩ := cell
    simp only [Memory.write]
    split
    · simp [Memory.read?]
    · split
      · simp [Memory.read?]
      · have hk : k ≠ a := by omega
        simpa [Memory.read?, hk] using ih

theorem Memory.read?_write_other (m : Memory) {a b : Nat} (v : Word) (h : b ≠ a) :
    (m.write a v).read? b = m.read? b := by
  have h' : a ≠ b := Ne.symm h
  induction m with
  | nil => simp [Memory.write, Memory.read?, h']
  | cons cell rest ih =>
    obtain ⟨k, w⟩ := cell
    simp only [Memory.write]
    split
    · simp [Memory.read?, h']
    · split
      · next hk => subst hk; simp [Memory.read?, h']
      · simp [Memory.read?, ih]

/-- A written address is the new one or an old one. -/
theorem Memory.mem_write {m : Memory} {a : Nat} {v : Word} {cell : Nat × Word} (h : cell ∈ m.write a v) :
    cell = (a, v) ∨ cell ∈ m := by
  induction m with
  | nil => simpa [Memory.write] using h
  | cons head rest ih =>
    obtain ⟨k, w⟩ := head
    simp only [Memory.write] at h
    split at h
    · simpa using h
    · split at h
      · rcases List.mem_cons.mp h with h | h
        · exact .inl h
        · exact .inr (List.mem_cons_of_mem _ h)
      · rcases List.mem_cons.mp h with h | h
        · exact .inr (h ▸ List.mem_cons_self)
        · exact (ih h).imp id (List.mem_cons_of_mem _)

@[simp] theorem Memory.wf_nil : Memory.wf [] = true := rfl

theorem Memory.wf_cons (k : Nat) (w : Word) (rest : Memory) :
    Memory.wf ((k, w) :: rest) = true ↔ (∀ cell ∈ rest, k < cell.1) ∧ Memory.wf rest = true := by
  simp [Memory.wf, List.pairwise_cons]

/-- A write keeps the canonical form. -/
theorem Memory.wf_write {m : Memory} (a : Nat) (v : Word) (h : m.wf = true) : (m.write a v).wf = true := by
  induction m with
  | nil => rfl
  | cons head rest ih =>
    obtain ⟨k, w⟩ := head
    obtain ⟨hk, hrest⟩ := (Memory.wf_cons k w rest).mp h
    simp only [Memory.write]
    split
    · next hak =>
      refine (Memory.wf_cons _ _ _).mpr ⟨fun cell hc => ?_, h⟩
      rcases List.mem_cons.mp hc with rfl | hc
      · exact hak
      · exact hak.trans (hk cell hc)
    · split
      · next hak => subst hak; exact (Memory.wf_cons _ _ _).mpr ⟨hk, hrest⟩
      · refine (Memory.wf_cons _ _ _).mpr ⟨fun cell hc => ?_, ih hrest⟩
        rcases Memory.mem_write hc with rfl | hc
        · show k < a
          omega
        · exact hk cell hc

/-- Writing the same word twice is writing it once. -/
theorem Memory.write_write_same (m : Memory) (a : Nat) (v : Word) : (m.write a v).write a v = m.write a v := by
  induction m with
  | nil => simp [Memory.write]
  | cons head rest ih =>
    obtain ⟨k, w⟩ := head
    simp only [Memory.write]
    split
    · simp [Memory.write]
    · split
      · simp [Memory.write]
      · next h1 h2 => simp [Memory.write, h1, h2, ih]

/-- The store after reset is canonical, and so after every store operation on a canonical store. -/
theorem State.resetWith_store_wf (cfg : Config) : (State.resetWith cfg).store.wf = true := rfl

theorem State.writeSample_store_wf (s : State) (a : Nat) (v : Word) (h : s.store.wf = true) :
    (s.writeSample a v).store.wf = true := Memory.wf_write a v h

end Sys2Proof.Machine
end

