-- ==== Sys2Proof/Laws/Ring.lean ====
section
/-! SUPPORT. The ring's arithmetic: occupancy and the advance of a cursor (R107, R110, R115). -/

namespace Sys2Proof.Machine

/-- What a well-formed configuration says of the ring's sizes (R8, R9, R12). -/
theorem Config.ring_bounds {c : Config} (h : c.wellFormed = true) :
    2 ≤ c.numBlocks ∧ c.numBlocks ≤ 127 ∧ 1 ≤ c.blockSize ∧ c.blockSize ≤ 65536 ∧ 1 ≤ c.numGlide ∧ c.numGlide ≤ 8 := by
  simp only [Config.wellFormed, Config.numBlocksOk, Config.blockSizeOk, Config.numGlideOk, Bool.and_eq_true,
    decide_eq_true_eq] at h
  omega

/-- The open configuration meets every constraint. -/
theorem Config.chip_wellFormed : Config.chip.wellFormed = true := by
  unfold Config.chip
  split
  · assumption
  · decide +kernel

/-- The occupancy of two cursors in range, without integers. -/
theorem cursorOcc_eq {n w r : Nat} (hw : w < 2 * n) (hr : r < 2 * n) :
    cursorOcc n w r = if r ≤ w then w - r else w + 2 * n - r := by
  unfold cursorOcc
  split
  · rw [Int.emod_eq_of_lt (by omega) (by omega)]; omega
  · rw [← Int.add_emod_right, Int.emod_eq_of_lt (by omega) (by omega)]; omega

/-- The cursor after one, in a ring whose cursors fit 8 bits. -/
theorem cursorNext_toNat {n : Nat} {c : BitVec 8} (hn : n ≤ 127) (hc : c.toNat < 2 * n) :
    (cursorNext n c).toNat = if c.toNat + 1 = 2 * n then 0 else c.toNat + 1 := by
  unfold cursorNext
  rw [BitVec.toNat_ofNat]
  split
  · next h => rw [h]; simp
  · rw [Nat.mod_eq_of_lt (a := c.toNat + 1) (by omega), Nat.mod_eq_of_lt (by omega)]

theorem cursorNext_lt {n : Nat} {c : BitVec 8} (hn : n ≤ 127) (hc : c.toNat < 2 * n) :
    (cursorNext n c).toNat < 2 * n := by
  rw [cursorNext_toNat hn hc]
  split <;> omega

/-- A commit into a ring that is not full adds one to the occupancy. -/
theorem cursorOcc_next_write {n : Nat} {w r : BitVec 8} (hn : n ≤ 127) (hw : w.toNat < 2 * n) (hr : r.toNat < 2 * n)
    (h : cursorOcc n w.toNat r.toNat < n) :
    cursorOcc n (cursorNext n w).toNat r.toNat = cursorOcc n w.toNat r.toNat + 1 := by
  rw [cursorOcc_eq (cursorNext_lt hn hw) hr, cursorNext_toNat hn hw]
  rw [cursorOcc_eq hw hr] at h ⊢
  split_ifs at h ⊢ <;> omega

/-- Freeing a block of a ring that is not empty takes one from the occupancy. -/
theorem cursorOcc_next_read {n : Nat} {w r : BitVec 8} (hn : n ≤ 127) (hw : w.toNat < 2 * n) (hr : r.toNat < 2 * n)
    (h : 1 ≤ cursorOcc n w.toNat r.toNat) :
    cursorOcc n w.toNat (cursorNext n r).toNat + 1 = cursorOcc n w.toNat r.toNat := by
  rw [cursorOcc_eq hw (cursorNext_lt hn hr), cursorNext_toNat hn hr]
  rw [cursorOcc_eq hw hr] at h ⊢
  split_ifs at h ⊢ <;> omega

/-- The block of the cursor after one is the next block. -/
theorem cursorNext_mod {n : Nat} {c : BitVec 8} (hn : n ≤ 127) (hc : c.toNat < 2 * n) :
    (cursorNext n c).toNat % n = (c.toNat + 1) % n := by
  rw [cursorNext_toNat hn hc]
  split
  · next h => rw [h]; simp
  · rfl

end Sys2Proof.Machine
end

