-- ==== Sys2Proof/Laws/Ops.lean ====
section
/-! SUPPORT. What each shared operation can do, said once. -/

namespace Sys2Proof.Machine

/-! ## Channels -/

theorem State.withGlide_absent (s : State) (ch : ChannelNo) (k : Glide → State) (h : s.cfg.numGlide ≤ ch.toNat) :
    s.withGlide ch k = s.refuse := by
  rw [State.withGlide, if_neg (by omega)]

theorem State.withGlide_present {s : State} {ch : ChannelNo} {k : Glide → State} {g : Glide}
    (h : ch.toNat < s.cfg.numGlide) (hg : s.glide[ch.toNat]? = some g) : s.withGlide ch k = k g := by
  simp [State.withGlide, h, hg]

/-- A glide command is refused, or it runs on the channel it names. -/
theorem State.withGlide_cases (s : State) (ch : ChannelNo) (k : Glide → State) :
    s.withGlide ch k = s.refuse ∨
    ∃ g, ch.toNat < s.cfg.numGlide ∧ s.glide[ch.toNat]? = some g ∧ s.withGlide ch k = k g := by
  by_cases h : ch.toNat < s.cfg.numGlide
  · cases hg : s.glide[ch.toNat]? with
    | none => exact .inl (by simp [State.withGlide, h, hg])
    | some g => exact .inr ⟨g, h, rfl, State.withGlide_present h hg⟩
  · exact .inl (State.withGlide_absent s ch k (by omega))

theorem State.withLfo_absent (s : State) (ch : ChannelNo) (k : Lfo → State) (h : 3 ≤ ch.toNat) :
    s.withLfo ch k = s.refuse := by
  rw [State.withLfo, dif_neg (by omega)]

theorem State.withLfo_present {s : State} {ch : ChannelNo} {k : Lfo → State} {l : Lfo}
    (hl : s.lfo[ch.toNat]? = some l) : s.withLfo ch k = k l := by
  obtain ⟨h, rfl⟩ := Vector.getElem?_eq_some_iff.mp hl
  rw [State.withLfo, dif_pos h]

/-- An LFO command is refused, or it runs on the channel it names. -/
theorem State.withLfo_cases (s : State) (ch : ChannelNo) (k : Lfo → State) :
    s.withLfo ch k = s.refuse ∨ ∃ l, s.lfo[ch.toNat]? = some l ∧ s.withLfo ch k = k l := by
  by_cases h : ch.toNat < 3
  · exact .inr ⟨s.lfo[ch.toNat], Vector.getElem?_eq_getElem h,
      State.withLfo_present (Vector.getElem?_eq_getElem h)⟩
  · exact .inl (State.withLfo_absent s ch k (by omega))

theorem Glide.arrives_iff (g : Glide) :
    g.arrives = true ↔
      (0 < g.inc.toInt ∧ g.target.toInt ≤ g.current.toInt + g.inc.toInt) ∨
      (g.inc.toInt < 0 ∧ g.current.toInt + g.inc.toInt ≤ g.target.toInt) := by
  rw [Glide.arrives, decide_eq_true_iff]
  rfl

/-- An LFO increment in the 32-bit phase format is the table entry, below 1.0 (R16). -/
theorem lfoIncAt_toNat (cfg : Config) (rate : Rate) : (lfoIncAt cfg rate).toNat = (cfg.lfoInc[rate.toNat]'rate.isLt).toNat := by
  have h := (cfg.lfoInc[rate.toNat]'rate.isLt).isLt
  rw [lfoIncAt, BitVec.toNat_setWidth, Nat.mod_eq_of_lt (by omega)]

theorem lfoIncAt_lt (cfg : Config) (rate : Rate) : (lfoIncAt cfg rate).toNat < 2 ^ 31 := by
  rw [lfoIncAt_toNat]
  exact (cfg.lfoInc[rate.toNat]'rate.isLt).isLt

/-! ## Sample addresses -/

/-- A sample of a block is at an address of the store (R51). -/
theorem sampleAddress_lt {cfg : Config} {b i : Nat} (hb : b < cfg.numBlocks) (hi : i < cfg.blockSize) :
    sampleAddress cfg b i < storeSize cfg := by
  have h := Nat.mul_le_mul_right cfg.blockSize (Nat.succ_le_of_lt hb)
  simp only [sampleAddress, storeSize, Nat.succ_eq_add_one, Nat.add_mul, Nat.one_mul] at h ⊢
  omega

/-- Samples of different blocks have different addresses. -/
theorem sampleAddress_ne {cfg : Config} {b b' i i' : Nat} (hi : i < cfg.blockSize) (hi' : i' < cfg.blockSize)
    (h : b ≠ b') : sampleAddress cfg b i ≠ sampleAddress cfg b' i' := by
  intro he
  have hd : (b * cfg.blockSize + i) / cfg.blockSize = (b' * cfg.blockSize + i') / cfg.blockSize :=
    congrArg (· / cfg.blockSize) he
  rw [Nat.mul_comm b, Nat.mul_comm b', Nat.mul_add_div (by omega), Nat.mul_add_div (by omega), Nat.div_eq_of_lt hi,
    Nat.div_eq_of_lt hi'] at hd
  exact h (by omega)

/-! ## The consumer step -/

/-- What a read of the sample store answers. -/
theorem State.readSample_eq {s : State} {a : Nat} (h : a < storeSize s.cfg) :
    s.readSample a =
      .ok ((s.store.read? a).getD (Config.freeSample s.draws), s.takeDraws (if s.store.read? a = none then 1 else 0)) := by
  cases hr : s.store.read? a with
  | none => simp [State.readSample, h, hr]
  | some v => simp [State.readSample, h, hr, State.takeDraws]

theorem State.readSample_absent {s : State} {a : Nat} (h : ¬ a < storeSize s.cfg) :
    s.readSample a = .error .storeAddressAbsent := by
  simp [State.readSample, h]

/-- The state after a tick that outputs the word v and takes n draws. -/
def State.afterSample (s : State) (v : Word) (n : Nat) : State := ((s.takeDraws n).setDac v).advanceRead

/-- Everything a TICK step can do: nothing where it is not enabled or finds no readable block, one sample where its read
address is one of the store's, and the fault of an absent address otherwise. -/
theorem tickStep_cases (s : State) :
    ((s.tcEn = false ∨ s.occ = 0) ∧ tickStep s = .next s) ∨
    (s.tcEn = true ∧ 1 ≤ s.occ ∧ ¬ sampleAddress s.cfg s.rblk s.rbPos.toNat < storeSize s.cfg ∧
      tickStep s = .fault .storeAddressAbsent) ∨
    (s.tcEn = true ∧ 1 ≤ s.occ ∧ sampleAddress s.cfg s.rblk s.rbPos.toNat < storeSize s.cfg ∧
      tickStep s = .next (s.afterSample
        ((s.store.read? (sampleAddress s.cfg s.rblk s.rbPos.toNat)).getD (Config.freeSample s.draws))
        (if s.store.read? (sampleAddress s.cfg s.rblk s.rbPos.toNat) = none then 1 else 0))) := by
  by_cases he : s.tcEn = true
  · by_cases ho : 1 ≤ s.occ
    · right
      by_cases ha : sampleAddress s.cfg s.rblk s.rbPos.toNat < storeSize s.cfg
      · exact .inr ⟨he, ho, ha, by simp [tickStep, he, ho, State.consume, State.readSample_eq ha, State.afterSample]⟩
      · exact .inl ⟨he, ho, ha, by simp [tickStep, he, ho, State.consume, State.readSample_absent ha]⟩
    · exact .inl ⟨.inr (by omega), by simp [tickStep, he, ho]⟩
  · exact .inl ⟨.inl (by simpa using he), by simp [tickStep, he]⟩

/-- The last sample of a block frees it; any other only moves the position (R115). -/
theorem State.advanceRead_last {s : State} (h : s.rbPos.toNat + 1 = s.cfg.blockSize) :
    s.advanceRead = { s with rbPos := 0, rbR := cursorNext s.cfg.numBlocks s.rbR, rbFreed := true } := by
  simp [State.advanceRead, State.atBlockEnd, h]

theorem State.advanceRead_inside {s : State} (h : s.rbPos.toNat + 1 ≠ s.cfg.blockSize) :
    s.advanceRead = { s with rbPos := s.rbPos + 1 } := by
  simp [State.advanceRead, State.atBlockEnd, h]

/-! ## Steps -/

/-- Every command completes (R67). -/
theorem exec_next (i : Instr) (s : State) : ∃ t, exec i s = .next t := by
  cases i <;> exact ⟨_, rfl⟩

/-- Everything a step can do: nothing at the end of the schedule, a transaction, or a tick. -/
theorem step_cases (s : State) :
    (s.schedule = [] ∧ step s = .next s) ∨
    (∃ cmd data rest, s.schedule = .host cmd data :: rest ∧ step s = transact cmd data s.dropStep) ∨
    (∃ rest, s.schedule = .tick :: rest ∧ step s = tickStep s.dropStep) := by
  cases h : s.schedule with
  | nil => exact .inl ⟨rfl, by simp [step, runNext, h]⟩
  | cons a rest =>
    cases a with
    | host cmd data => exact .inr (.inl ⟨cmd, data, rest, rfl, by simp [step, runNext, h]⟩)
    | tick => exact .inr (.inr ⟨rest, rfl, by simp [step, runNext, h]⟩)

/-- A transaction runs the decoded command, or is answered with ILLEGAL. -/
theorem transact_cases (cmd data : Word) (s : State) :
    (∃ i, decode cmd data = .ok i ∧ transact cmd data s = exec i s) ∨
    (∃ e, decode cmd data = .error e ∧ transact cmd data s = .next s.respondIllegal) := by
  cases h : decode cmd data with
  | ok i => exact .inl ⟨i, rfl, by simp [transact, h]⟩
  | error e => exact .inr ⟨e, rfl, by simp [transact, h]⟩

end Sys2Proof.Machine
end

