-- ==== Sys2Proof/Laws/PerInstr.lean ====
section
/-! SUPPORT. The family RowOfWord, one lemma per command: the CMD word of every command, with every operand, is in the
command's own row of the opcode table (R71, R73). -/

namespace Sys2Proof.Laws.RowOfWord

open Sys2Proof Sys2Proof.Machine

/-- The command's CMD word is covered by a row of the opcode table that has the command's mnemonic. -/
def Statement (i : Instr) : Prop :=
  ∃ row ∈ opcodeTable, row.mnemonic = mnemonic i ∧ row.covers (encode i).1 = true

/-- Masking a concatenation masks its parts. -/
theorem append_and_append {m n : Nat} (a c : BitVec m) (b d : BitVec n) :
    (a ++ b) &&& (c ++ d) = (a &&& c) ++ (b &&& d) := by
  ext i hi
  simp only [BitVec.getElem_and, BitVec.getElem_append]
  split <;> rfl

/-- Masking a CMD word masks its three fields. -/
theorem cmdWord_and (op : Opcode) (ch mc : ChannelNo) (imm mi : BitVec 20) (mo : BitVec 8) :
    cmdWord op ch imm &&& (mo ++ mc ++ mi) = (op.code &&& mo) ++ (ch &&& mc) ++ (imm &&& mi) := by
  show ((op.code ++ ch) ++ imm) &&& ((mo ++ mc) ++ mi) = _
  rw [append_and_append, append_and_append]

/-- A row covers a word whose masked fields are the row's value. -/
theorem covers_cmdWord {row : TableRow} {op : Opcode} {ch mc : ChannelNo} {imm mi : BitVec 20} {mo : BitVec 8}
    (hm : row.mask = mo ++ mc ++ mi) (hv : row.value = op.code ++ 0#4 ++ 0#20) (ho : op.code &&& mo = op.code)
    (hc : ch &&& mc = 0) (hi : imm &&& mi = 0) : row.covers (cmdWord op ch imm) = true := by
  rw [TableRow.covers, hm, hv, cmdWord_and, ho, hc, hi]
  exact beq_self_eq_true _

theorem immIndex_and (index : BitVec 16) : immIndex index &&& 0xF0000 = 0 := by
  show (0#4 ++ index) &&& ((0xF#4 ++ 0x0000#16 : BitVec (4 + 16))) = _
  rw [append_and_append]
  simp

theorem immRate_and (rate : Rate) : immRate rate &&& 0xFFF80 = 0 := by
  show (0#13 ++ rate) &&& ((0x1FFF#13 ++ 0x00#7 : BitVec (13 + 7))) = _
  rw [append_and_append]
  simp

theorem immShape_and (rate : Rate) (shape : Shape) (abs : Bool) : immShape rate shape abs &&& 0xFF080 = 0 := by
  show ((((0#8 ++ BitVec.ofBool abs) ++ shape.code) ++ 0#1) ++ rate) &&&
    ((((0xFF#8 ++ 0#1) ++ 0#3) ++ 1#1) ++ 0x00#7 : BitVec (8 + 1 + 3 + 1 + 7)) = _
  simp only [append_and_append]
  simp

theorem immEnable_and (en : Bool) : immEnable en &&& 0xFFFFE = 0 := by
  cases en <;> decide

theorem nop : Statement .nop :=
  ⟨⟨"NOP", 0x00000000, 0xFFFFFFFF⟩, by decide, rfl,
    covers_cmdWord (mo := 0xFF) (mc := 0xF) (mi := 0xFFFFF) rfl rfl rfl (by simp) (by simp)⟩

theorem glideInit (ch : ChannelNo) (rate : Rate) (target : Word) : Statement (.glideInit ch rate target) :=
  ⟨⟨"GLIDE_INIT", 0x10000000, 0xFF0FFF80⟩, by decide, rfl,
    covers_cmdWord (mo := 0xFF) (mc := 0x0) (mi := 0xFFF80) rfl rfl rfl (by simp) (immRate_and rate)⟩

theorem glideUpdate (ch : ChannelNo) : Statement (.glideUpdate ch) :=
  ⟨⟨"GLIDE_UPDATE", 0x11000000, 0xFF0FFFFF⟩, by decide, rfl,
    covers_cmdWord (mo := 0xFF) (mc := 0x0) (mi := 0xFFFFF) rfl rfl rfl (by simp) (by simp)⟩

theorem glideRead (ch : ChannelNo) : Statement (.glideRead ch) :=
  ⟨⟨"GLIDE_READ", 0x12000000, 0xFF0FFFFF⟩, by decide, rfl,
    covers_cmdWord (mo := 0xFF) (mc := 0x0) (mi := 0xFFFFF) rfl rfl rfl (by simp) (by simp)⟩

theorem glideStatus (ch : ChannelNo) : Statement (.glideStatus ch) :=
  ⟨⟨"GLIDE_STATUS", 0x13000000, 0xFF0FFFFF⟩, by decide, rfl,
    covers_cmdWord (mo := 0xFF) (mc := 0x0) (mi := 0xFFFFF) rfl rfl rfl (by simp) (by simp)⟩

theorem lfoInit (ch : ChannelNo) (rate : Rate) (startPhase : Word) : Statement (.lfoInit ch rate startPhase) :=
  ⟨⟨"LFO_INIT", 0x20000000, 0xFF0FFF80⟩, by decide, rfl,
    covers_cmdWord (mo := 0xFF) (mc := 0x0) (mi := 0xFFF80) rfl rfl rfl (by simp) (immRate_and rate)⟩

theorem lfoUpdate (ch : ChannelNo) (rate : Rate) (shape : Shape) (abs : Bool) : Statement (.lfoUpdate ch rate shape abs) :=
  ⟨⟨"LFO_UPDATE", 0x21000000, 0xFF0FF080⟩, by decide, rfl,
    covers_cmdWord (mo := 0xFF) (mc := 0x0) (mi := 0xFF080) rfl rfl rfl (by simp) (immShape_and rate shape abs)⟩

theorem lfoPhase (ch : ChannelNo) : Statement (.lfoPhase ch) :=
  ⟨⟨"LFO_PHASE", 0x22000000, 0xFF0FFFFF⟩, by decide, rfl,
    covers_cmdWord (mo := 0xFF) (mc := 0x0) (mi := 0xFFFFF) rfl rfl rfl (by simp) (by simp)⟩

theorem lfoOut (ch : ChannelNo) : Statement (.lfoOut ch) :=
  ⟨⟨"LFO_OUT", 0x23000000, 0xFF0FFFFF⟩, by decide, rfl,
    covers_cmdWord (mo := 0xFF) (mc := 0x0) (mi := 0xFFFFF) rfl rfl rfl (by simp) (by simp)⟩

theorem rbStatus : Statement .rbStatus :=
  ⟨⟨"RB_STATUS", 0x30000000, 0xFFFFFFFF⟩, by decide, rfl,
    covers_cmdWord (mo := 0xFF) (mc := 0xF) (mi := 0xFFFFF) rfl rfl rfl (by simp) (by simp)⟩

theorem rbWrite (index : BitVec 16) (sample : Word) : Statement (.rbWrite index sample) :=
  ⟨⟨"RB_WRITE", 0x31000000, 0xFFFF0000⟩, by decide, rfl,
    covers_cmdWord (mo := 0xFF) (mc := 0xF) (mi := 0xF0000) rfl rfl rfl (by simp) (immIndex_and index)⟩

theorem rbCommit : Statement .rbCommit :=
  ⟨⟨"RB_COMMIT", 0x32000000, 0xFFFFFFFF⟩, by decide, rfl,
    covers_cmdWord (mo := 0xFF) (mc := 0xF) (mi := 0xFFFFF) rfl rfl rfl (by simp) (by simp)⟩

theorem rbAck : Statement .rbAck :=
  ⟨⟨"RB_ACK", 0x33000000, 0xFFFFFFFF⟩, by decide, rfl,
    covers_cmdWord (mo := 0xFF) (mc := 0xF) (mi := 0xFFFFF) rfl rfl rfl (by simp) (by simp)⟩

theorem rbCursors : Statement .rbCursors :=
  ⟨⟨"RB_CURSORS", 0x34000000, 0xFFFFFFFF⟩, by decide, rfl,
    covers_cmdWord (mo := 0xFF) (mc := 0xF) (mi := 0xFFFFF) rfl rfl rfl (by simp) (by simp)⟩

theorem tcSetPeriod (period : Word) : Statement (.tcSetPeriod period) :=
  ⟨⟨"TC_SET_PERIOD", 0x40000000, 0xFFFFFFFF⟩, by decide, rfl,
    covers_cmdWord (mo := 0xFF) (mc := 0xF) (mi := 0xFFFFF) rfl rfl rfl (by simp) (by simp)⟩

theorem tcEnable (en : Bool) : Statement (.tcEnable en) :=
  ⟨⟨"TC_ENABLE", 0x41000000, 0xFFFFFFFE⟩, by decide, rfl,
    covers_cmdWord (mo := 0xFF) (mc := 0xF) (mi := 0xFFFFE) rfl rfl rfl (by simp) (immEnable_and en)⟩

theorem tcReadPeriod : Statement .tcReadPeriod :=
  ⟨⟨"TC_READ_PERIOD", 0x42000000, 0xFFFFFFFF⟩, by decide, rfl,
    covers_cmdWord (mo := 0xFF) (mc := 0xF) (mi := 0xFFFFF) rfl rfl rfl (by simp) (by simp)⟩

theorem dacRead : Statement .dacRead :=
  ⟨⟨"DAC_READ", 0x43000000, 0xFFFFFFFF⟩, by decide, rfl,
    covers_cmdWord (mo := 0xFF) (mc := 0xF) (mi := 0xFFFFF) rfl rfl rfl (by simp) (by simp)⟩

end Sys2Proof.Laws.RowOfWord
end

