-- ==== Sys2Proof/Laws/Run.lean ====
section
/-! SUPPORT. Which steps of a schedule belong to its run, and how a run goes one step at a time (R152). -/

namespace Sys2Proof.Machine

@[simp] theorem runLength_nil : runLength [] = 0 := rfl

/-- A schedule whose steps are all ticks has no step of a run. -/
theorem runLength_of_no_host {l : List AgentStep} (h : l.any AgentStep.isHost = false) : runLength l = 0 := by
  cases l with
  | nil => rfl
  | cons a rest => simp [runLength, h]

/-- Where a transaction is still to come, the first step belongs to the run. -/
theorem runLength_cons {a : AgentStep} {rest : List AgentStep} (h : (a :: rest).any AgentStep.isHost = true) :
    runLength (a :: rest) = runLength rest + 1 := by
  simp [runLength, h]

theorem runLength_le (l : List AgentStep) : runLength l ≤ l.length := by
  induction l with
  | nil => exact Nat.le_refl 0
  | cons a rest ih =>
    simp only [runLength, List.length_cons]
    split <;> omega

/-- A tick after the last transaction adds nothing to the run. -/
theorem runLength_append_ticks (l : List AgentStep) (n : Nat) :
    runLength (l ++ List.replicate n .tick) = runLength l := by
  have hticks : (List.replicate n AgentStep.tick).any AgentStep.isHost = false := by
    simp [AgentStep.isHost]
  induction l with
  | nil => exact runLength_of_no_host hticks
  | cons a rest ih => simp only [List.cons_append, runLength, List.any_cons, List.any_append, hticks, Bool.or_false, ih]; rfl

/-- What is left of a schedule after its run is ticks. -/
theorem no_host_after_run (l : List AgentStep) : (l.drop (runLength l)).any AgentStep.isHost = false := by
  induction l with
  | nil => rfl
  | cons a rest ih =>
    by_cases h : (a :: rest).any AgentStep.isHost = true
    · rw [runLength_cons h]
      exact ih
    · rw [runLength_of_no_host (by simpa using h)]
      simpa using h

/-- A run that is not over takes its first step and goes on. -/
theorem core_run_succ {s t : State} (n : Nat) (h : step s = .next t) :
    Sys2Proof.core.run (n + 1) s = Sys2Proof.core.run n t := by
  have h' : Sys2Proof.core.step s = .next t := h
  simp only [Host.Core.run, h']

end Sys2Proof.Machine
end

