-- ==== Sys2Proof/Tests/Slice0.lean ====
section
/-! SUPPORT. Tests. Their expected results are those of spec/95_test_vectors.md (the vector is named with each test) or are
written out bit by bit from spec/30_encoding.md. The last part shows, for each obligation with hypotheses, values that meet
them. -/

namespace Sys2Proof.Tests

open Sys2Proof Sys2Proof.Machine

/-! ## The example configuration of 95_test_vectors.md -/

/-- GLIDE_COEF[r] = 200 + floor(65336 * (r - 1) / 126), and 0 at r = 0. -/
def exampleCoef (r : Nat) : Fin 65537 := Fin.ofNat 65537 (if r = 0 then 0 else 200 + 65336 * (r - 1) / 126)

/-- The LFO_INC entries the vectors use. -/
def exampleInc (r : Nat) : BitVec 31 :=
  if r = 10 then 0x08000000 else if r = 20 then 0x20000000 else if r = 127 then 0x7FFFFFFF else 0

def exampleCfg : Config where
  numBlocks := 3
  blockSize := 2
  numGlide := 3
  clkInHz := 16384000
  chipClockHz := 985248
  glideCoef := ⟨((List.range 128).map exampleCoef).toArray, by simp⟩
  lfoInc := ⟨((List.range 128).map exampleInc).toArray, by simp⟩
  sine := sineDefault
  portBase := none
  portByteOrder := Vector.ofFn id
  portInOrder := true

/-- "Start: reset" on the example configuration. -/
def start : State := State.resetWith exampleCfg

/-- Two of three blocks committed, the second sample next, a timer running, glide 0 and LFO 0 in motion. -/
def busy : State :=
  { start with
    rbW := 2, rbPos := 1, tcEn := true, tcPeriod := 0x200
    store := [(0, 0x00010002), (1, 0xFFFE0003), (2, 0x00050006), (3, 0x00070008)]
    glide := [{ current := 0, target := 5, inc := 2 }, Glide.atReset, { current := 7, target := 7, inc := 0 }]
    lfo := #v[{ phase := 0x70000000, inc := 0, pending := false, resetPhase := 0, out := 0 },
      { phase := 0x80000000, inc := 0, pending := false, resetPhase := 0x60000000, out := 0xD000 },
      { phase := 0, inc := 0, pending := true, resetPhase := 0x40000000, out := 0 }] }

/-- The ring full, as after vectors R5 to R8, with the timer running (R16). -/
def full : State :=
  { start with rbW := 3, store := [(1, 0xFFFE0003)], tcEn := true, tcPeriod := 0x200 }

/-- One block left to read, its last sample next, and the write cursor at its last value (program P4, n = 5). -/
def wrapping : State :=
  { start with rbW := 5, rbR := 4, rbPos := 1, rbFreed := true, store := [(2, 0x00400040), (3, 0x0041FFBF)]
               tcEn := true, tcPeriod := 0x200 }

/-- The state after one transaction. -/
def ran (s : State) (cmd data : Word) : State :=
  match step (s.present cmd data) with
  | .next t => t
  | .fault _ => s
  | .refused _ => s

/-- The response to one transaction. -/
def answer (s : State) (cmd data : Word) : Option Response := (ran s cmd data).response

/-- The state after one tick. -/
def ticked (s : State) : State :=
  match tickStep s with
  | .next t => t
  | .fault _ => s
  | .refused _ => s

def ok (rdata : Word) : Option Response := some { status := .ok, rdata := rdata }

def refusedResponse : Option Response := some { status := .refused, rdata := 0 }

def illegalResponse : Option Response := some { status := .illegal, rdata := 0 }

/-! ## Well-formedness -/

theorem test_example_config : exampleCfg.wellFormed = true := by decide +kernel

/-- Every constraint on the parameters refuses a term that breaks it alone (R8, R9, R12, R15, R17, R53, R63). -/
theorem test_config_refuses :
    ({ exampleCfg with numBlocks := 1 } : Config).wellFormed = false ∧
    ({ exampleCfg with numBlocks := 128 } : Config).wellFormed = false ∧
    ({ exampleCfg with blockSize := 0 } : Config).wellFormed = false ∧
    ({ exampleCfg with blockSize := 65537 } : Config).wellFormed = false ∧
    ({ exampleCfg with numGlide := 0 } : Config).wellFormed = false ∧
    ({ exampleCfg with numGlide := 9 } : Config).wellFormed = false ∧
    ({ exampleCfg with glideCoef := exampleCfg.glideCoef.set 3 718 } : Config).wellFormed = false ∧
    ({ exampleCfg with sine := exampleCfg.sine.set 256 1 } : Config).wellFormed = false ∧
    ({ exampleCfg with clkInHz := 0 } : Config).wellFormed = false ∧
    ({ exampleCfg with chipClockHz := 0 } : Config).wellFormed = false ∧
    ({ exampleCfg with portByteOrder := Vector.replicate 4 0 } : Config).wellFormed = false ∧
    ({ exampleCfg with portInOrder := false } : Config).wellFormed = false := by decide +kernel

/-- The greatest configuration is allowed. -/
theorem test_config_bounds :
    ({ exampleCfg with numBlocks := 127, blockSize := 65536, numGlide := 8 } : Config).wellFormed = true := by
  decide +kernel

/-- Operand checks (G17, LC11, LC12, R3, R4, T2): each refuses an ill-formed command and allows the value below it. -/
theorem test_instr_wellFormed :
    (Instr.glideInit 3 1 0).wellFormed exampleCfg = false ∧ (Instr.glideInit 2 1 0).wellFormed exampleCfg = true ∧
    (Instr.glideUpdate 3).wellFormed exampleCfg = false ∧ (Instr.glideRead 15).wellFormed exampleCfg = false ∧
    (Instr.glideStatus 3).wellFormed exampleCfg = false ∧
    (Instr.lfoInit 3 10 0).wellFormed exampleCfg = false ∧ (Instr.lfoInit 2 10 0).wellFormed exampleCfg = true ∧
    (Instr.lfoInit 0 10 0x80000000).wellFormed exampleCfg = false ∧
    (Instr.lfoInit 0 10 0x7FFFFFFF).wellFormed exampleCfg = true ∧
    (Instr.lfoUpdate 3 10 .saw false).wellFormed exampleCfg = false ∧
    (Instr.lfoPhase 3).wellFormed exampleCfg = false ∧ (Instr.lfoOut 3).wellFormed exampleCfg = false ∧
    (Instr.rbWrite 2 0).wellFormed exampleCfg = false ∧ (Instr.rbWrite 1 0).wellFormed exampleCfg = true ∧
    (Instr.tcSetPeriod 0).wellFormed exampleCfg = false ∧ (Instr.tcSetPeriod 1).wellFormed exampleCfg = true := by
  decide +kernel

/-- Illegal words: the lowest and the highest must-be-zero bit of each format, a reserved shape, unassigned opcodes. -/
theorem test_illegal_words :
    ([0x00000001, 0x00800000, 0x10000080, 0x10080000, 0x11000001, 0x11080000, 0x21000080, 0x21001000,
        0x21080000, 0x21000600, 0x21000700]
      ++ [0x31010000, 0x31800000, 0x40000001, 0x40800000, 0x41000002, 0x41800000, 0xFF000000, 0x14000000, 0x01000000,
        0x44000000, 0x24000000, 0x35000000] : List Word).all
      (fun cmd => !legalCommand cmd && answer start cmd 0 == illegalResponse) = true := by decide +kernel

/-! ## Decoding: each constructor's word, bit by bit, OPC CH IMM (R69, R71, R73) -/

theorem test_decode_nop : decode 0b00000000_0000_00000000000000000000 0x12345678 = .ok .nop := by decide

theorem test_decode_glideInit :
    decode 0b00010000_0010_0000000000000_1111110 0x80000001 = .ok (.glideInit 2 126 0x80000001) := by decide

theorem test_decode_glideUpdate : decode 0b00010001_0001_00000000000000000000 0 = .ok (.glideUpdate 1) := by decide

theorem test_decode_glideRead : decode 0b00010010_1111_00000000000000000000 0 = .ok (.glideRead 15) := by decide

theorem test_decode_glideStatus : decode 0b00010011_1000_00000000000000000000 0 = .ok (.glideStatus 8) := by decide

theorem test_decode_lfoInit :
    decode 0b00100000_0001_0000000000000_0010100 0x60000000 = .ok (.lfoInit 1 20 0x60000000) := by decide

theorem test_decode_lfoUpdate :
    decode 0b00100001_0010_00000000_1_101_0_0001010 0 = .ok (.lfoUpdate 2 10 .random true) ∧
    decode 0b00100001_0000_00000000_0_000_0_1000000 0 = .ok (.lfoUpdate 0 64 .triangle false) ∧
    decode 0b00100001_0000_00000000_0_110_0_0000000 0 = .error .shapeReserved := by decide

theorem test_decode_lfoPhase : decode 0b00100010_0001_00000000000000000000 0 = .ok (.lfoPhase 1) := by decide

theorem test_decode_lfoOut : decode 0b00100011_0010_00000000000000000000 0 = .ok (.lfoOut 2) := by decide

theorem test_decode_rbStatus : decode 0b00110000_0000_00000000000000000000 7 = .ok .rbStatus := by decide

theorem test_decode_rbWrite :
    decode 0b00110001_0000_0000_1000000000000001 0xFFFE0003 = .ok (.rbWrite 0x8001 0xFFFE0003) := by decide

theorem test_decode_rbCommit : decode 0b00110010_0000_00000000000000000000 0 = .ok .rbCommit := by decide

theorem test_decode_rbAck : decode 0b00110011_0000_00000000000000000000 0 = .ok .rbAck := by decide

theorem test_decode_rbCursors : decode 0b00110100_0000_00000000000000000000 0 = .ok .rbCursors := by decide

theorem test_decode_tcSetPeriod :
    decode 0b01000000_0000_00000000000000000000 0x200 = .ok (.tcSetPeriod 0x200) := by decide

theorem test_decode_tcEnable :
    decode 0b01000001_0000_00000000000000000001 0 = .ok (.tcEnable true) ∧
    decode 0b01000001_0000_00000000000000000000 0 = .ok (.tcEnable false) := by decide

theorem test_decode_tcReadPeriod : decode 0b01000010_0000_00000000000000000000 0 = .ok .tcReadPeriod := by decide

theorem test_decode_dacRead : decode 0b01000011_0000_00000000000000000000 0 = .ok .dacRead := by decide

/-- The encoder against the words of 95_test_vectors.md. -/
theorem test_encode :
    encode (.glideInit 1 127 0x7FFFFFFF) = (0x1010007F, 0x7FFFFFFF) ∧ encode (.glideUpdate 1) = (0x11100000, 0) ∧
    encode (.lfoInit 2 127 0) = (0x2020007F, 0) ∧ encode (.lfoUpdate 1 10 .saw true) = (0x2110090A, 0) ∧
    encode (.rbWrite 1 0xFFFE0003) = (0x31000001, 0xFFFE0003) ∧ encode (.tcSetPeriod 0x200) = (0x40000000, 0x200) ∧
    encode (.tcEnable true) = (0x41000001, 0) ∧ encode .dacRead = (0x43000000, 0) := by decide

/-- A table word: CMD in the low 32 bits, DATA above; bits from nbits up are 0. -/
theorem test_table_word :
    decodeTableWord 32 0x41000001 = some (.tcEnable true) ∧
    decodeTableWord 64 0x0000020040000000 = some (.tcSetPeriod 0x200) ∧
    decodeTableWord 32 0x0000020040000000 = some (.tcSetPeriod 0) ∧ decodeTableWord 32 0x2100060A = none := by decide

/-- R76, R77: assembler text and pseudo-instructions of program P2 and vectors G3, R5, LC9. -/
theorem test_assembly :
    asm (.glideInit 0 1 0x00400000) = "GLIDE_INIT g0, 1, 4194304" ∧ glideNote 0 1 64 = .glideInit 0 1 0x00400000 ∧
    glideSnap 0 0x00400000 = .glideInit 0 0 0x00400000 ∧ rbWriteSample 1 (-2) 3 = .rbWrite 1 0xFFFE0003 ∧
    asm (.rbWrite 1 0xFFFE0003) = "RB_WRITE 1, -2, 3" ∧ asm (.lfoUpdate 0 10 .square true) = "LFO_UPDATE.ABS l0, 10, SQR" ∧
    rbPushBlock [(1, 2), (3, 4)] = [.rbWrite 0 0x00010002, .rbWrite 1 0x00030004, .rbCommit] := by decide +kernel

/-! ## Fixed point (X1 to X11) -/

theorem test_fixed_point :
    fxPitch.fromInt 64 = 0x00400000 ∧ fxPitch.fromInt (-1) = -0x10000 ∧
    fxOutput.fromInt 1 = 32767 ∧ fxOutput.fromInt (-1) = -32768 ∧
    fxPitch.integral (-0x8000) = -1 ∧ fxPitch.fractional (-0x8000) = 0x8000 ∧
    fxPitch.integral 0x00408000 = 64 ∧ fxPitch.fractional 0x00408000 = 0x8000 ∧
    FxType.addIntegral ⟨8, 8, true⟩ 0x7E00 3 = 0x7FFF ∧ FxType.addFractional ⟨8, 8, true⟩ (-32767) (-5) = -32768 ∧
    fxPitch.scale 0x00010000 70000 = 0x11700000 ∧ FxType.scale ⟨8, 8, true⟩ 0x0100 200 = 0x7FFF ∧
    fxPhase.addFractional 0xFFFFFFFF 1 = 0 := by decide +kernel

/-! ## Waveforms (LW1 to LW29, R102) -/

/-- The wave of the shape gives the listed output at each listed phase. -/
def waves (shape : Shape) (rows : List (Nat × Int)) : Bool := rows.all fun row => wave exampleCfg shape row.1 0 == row.2

theorem test_wave_triangle :
    waves .triangle [(0x00000000, -32768), (0x08000000, -24576), (0x20000000, 0), (0x40000000, 32767), (0x60000000, -1),
      (0x7FFF8000, -32767), (0x80000000, -32768)] = true := by decide +kernel

theorem test_wave_saw :
    waves .saw [(0x00000000, -32768), (0x20000000, -16384), (0x40000000, 0), (0x7FFF8000, 32767), (0x80000000, -32768)]
      = true := by decide +kernel

theorem test_wave_square :
    waves .square [(0x00000000, 32767), (0x3FFF8000, 32767), (0x40000000, -32768)] = true := by decide +kernel

theorem test_wave_sine :
    waves .sine [(0x00000000, 0), (0x00040000, 25), (0x10000000, 23170), (0x20000000, 32767), (0x40000000, 0),
      (0x40008000, -4), (0x40400000, -402), (0x60000000, -32767), (0x70000000, -23170), (0x7FFF8000, -4), (0x80000000, 0)]
      = true := by decide +kernel

theorem test_wave_ramp :
    waves .ramp [(0x00000000, 0), (0x40000000, 16383), (0x60000000, 24575), (0x7FFF8000, 32766), (0x80000000, 32767)]
      = true := by decide +kernel

theorem test_fold : fold (-32768) = 32767 ∧ fold (-16384) = 16384 ∧ fold (-12288) = 12288 ∧ fold 32767 = 32767 := by
  decide

/-! ## Glide commands -/

/-- G1: q = 12800. -/
theorem test_glideInit_arms :
    answer start 0x10000001 0x00400000 = ok 0 ∧
    (ran start 0x10000001 0x00400000).glide[0]? =
      some { current := 0, target := 0x00400000, inc := 12800 } := by decide +kernel

/-- G5, G10, G12, G13: a forced -1, a truncation toward zero of -501.5, 2.5 to 2, and a re-init in flight. -/
theorem test_glideInit_rounds :
    ((ran start 0x10000001 0xFFFFFF9C).glide[0]?.map (·.inc)) = some (-1#33) ∧
    ((ran start 0x10000040 0xFFFFFC18).glide[0]?.map (·.inc)) = some (-501#33) ∧
    ((ran start 0x10000040 5).glide[0]?.map (·.inc)) = some 2#33 ∧
    ((ran { start with glide := [⟨0x3200, 0x00400000, 12800⟩, Glide.atReset, Glide.atReset] } 0x10000001 0).glide[0]?)
      = some { current := 0x3200, target := 0, inc := -39 } := by decide +kernel

/-- G2, and G12's last step: 4 + 2 = 6 passes 5 and lands on it. -/
theorem test_glideUpdate :
    answer { start with glide := [⟨0, 0x00400000, 12800⟩, Glide.atReset, Glide.atReset] } 0x11000000 0 = ok 0x3200 ∧
    (ran { start with glide := [⟨4, 5, 2⟩, Glide.atReset, Glide.atReset] } 0x11000000 0).glide[0]? =
      some { current := 5, target := 5, inc := 0 } := by decide +kernel

/-- G8: a 33-bit increment, and no wrap; G6: the last step down. -/
theorem test_glideUpdate_extremes :
    (ran { start with glide := [Glide.atReset, ⟨0x80000000, 0x80000000, 0⟩, Glide.atReset] } 0x1010007F 0x7FFFFFFF).glide[1]?
      = some { current := 0x80000000, target := 0x7FFFFFFF, inc := 0x0FFFFFFFF } ∧
    answer { start with glide := [Glide.atReset, ⟨0x80000000, 0x7FFFFFFF, 0x0FFFFFFFF⟩, Glide.atReset] } 0x11100000 0
      = ok 0x7FFFFFFF ∧
    (ran { start with glide := [⟨0x003C0220, 0x003C0000, -800⟩, Glide.atReset, Glide.atReset] } 0x11000000 0).glide[0]?
      = some { current := 0x003C0000, target := 0x003C0000, inc := 0 } := by decide +kernel

/-- G16, G17. -/
theorem test_glideRead :
    answer start 0x12200000 0 = ok 0 ∧ answer busy 0x12200000 0 = ok 7 ∧ answer start 0x12300000 0 = refusedResponse := by
  decide +kernel

theorem test_glideStatus :
    answer start 0x13000000 0 = ok 0 ∧ answer busy 0x13000000 0 = ok 1 ∧ answer busy 0x13300000 0 = refusedResponse := by
  decide +kernel

/-- G20: ILLEGAL wins over REFUSED. -/
theorem test_illegal_before_refused : answer start 0x10300081 0 = illegalResponse := by decide +kernel

/-! ## LFO commands -/

/-- LC3, first command; LC12: a start phase of 1.0. -/
theorem test_lfoInit :
    (ran start 0x2000000A 0x40000000).lfo[0] =
      { phase := 0, inc := 0x08000000, pending := true, resetPhase := 0x40000000, out := 0 } ∧
    answer start 0x2000000A 0x80000000 = refusedResponse ∧ answer start 0x2030000A 0 = refusedResponse := by
  decide +kernel

/-- LC6: the wrap; P3 step 6: the clamp; LC3: the pending reset does not advance. -/
theorem test_lfoUpdate :
    answer busy 0x21000314 0 = ok 0x00005A82 ∧ (ran busy 0x21000314 0).lfo[0].phase = 0x10000000 ∧
    answer busy 0x21100414 0 = ok 0x00007FFF ∧ (ran busy 0x21100414 0).lfo[1].phase = 0x80000000 ∧
    answer busy 0x2120000A 0 = ok 0x00007FFF ∧ (ran busy 0x2120000A 0).lfo[2].phase = 0x40000000 := by decide +kernel

/-- P3 step 8: a folded SAW, and its output register. -/
theorem test_lfoUpdate_abs :
    answer { busy with lfo := busy.lfo.set 1 ⟨0x20000000, 0x20000000, false, 0x60000000, 0⟩ } 0x2110090A 0 = ok 0x3000 ∧
    (ran { busy with lfo := busy.lfo.set 1 ⟨0x20000000, 0x20000000, false, 0x60000000, 0⟩ } 0x2110090A 0).lfo[1] =
      { phase := 0x28000000, inc := 0x08000000, pending := false, resetPhase := 0x60000000, out := 12288 } := by
  decide +kernel

/-- P3 step 5; LC13: a pending reset is not visible. -/
theorem test_lfoPhase : answer busy 0x22100000 0 = ok 0x80000000 ∧ answer busy 0x22200000 0 = ok 0 := by decide +kernel

/-- A negative output reads sign-extended (0xD000 is -12288); P3 step 13. -/
theorem test_lfoOut : answer busy 0x23100000 0 = ok 0xFFFFD000 ∧ answer busy 0x23300000 0 = refusedResponse := by
  decide +kernel

/-! ## Ring buffer commands -/

/-- R1, R17. -/
theorem test_rbStatus :
    answer start 0x30000000 0 = ok 0x00000003 ∧ answer full 0x30000000 0 = ok 0x00020300 ∧
    answer { full with rbR := 1, rbFreed := true } 0x30000000 0 = ok 0x00030201 := by decide +kernel

/-- R5, R3, R10. -/
theorem test_rbWrite :
    (ran start 0x31000001 0xFFFE0003).store = [(1, 0xFFFE0003)] ∧ answer start 0x31000002 0x00010001 = refusedResponse ∧
    answer full 0x31000000 0x00090009 = refusedResponse := by decide +kernel

/-- PUSH(6) of program P4 writes block 0 while rb_w = 0 after the wrap: words 0 and 1 in rising order. -/
theorem test_rbWrite_order :
    (ran { wrapping with rbW := 0 } 0x31000001 0x0061FF9F).store.map Prod.fst = [1, 2, 3] := by decide +kernel

/-- R6, R9. -/
theorem test_rbCommit : answer start 0x32000000 0 = ok 0x00000102 ∧ answer full 0x32000000 0 = refusedResponse := by
  decide +kernel

/-- P4, n = 5: rb_w wraps from 5 to 0. -/
theorem test_rbCommit_wraps : (ran wrapping 0x32000000 0).rbW = 0 := by decide +kernel

/-- R22. -/
theorem test_rbAck :
    answer { full with rbR := 1, rbFreed := true } 0x33000000 0 = ok 0x00030201 ∧
    (ran { full with rbR := 1, rbFreed := true } 0x33000000 0).rbFreed = false := by decide +kernel

/-- R11, R19. -/
theorem test_rbCursors :
    answer full 0x34000000 0 = ok 0x00000003 ∧ answer { full with rbPos := 1 } 0x34000000 0 = ok 0x00010003 := by
  decide +kernel

/-! ## The tick, timing control and the D/A registers -/

/-- R18: an unwritten word is a draw, a free value. -/
theorem test_tick_unwritten :
    ∃ t, tickStep full = .next t ∧ t.dacL = sampleLeft (Config.freeSample 0) ∧ t.rbPos = 1 ∧ t.draws = 1 :=
  ⟨_, rfl, rfl, rfl, rfl⟩

/-- R20: the block's last sample frees it. -/
theorem test_tick_frees :
    ((ticked { full with rbPos := 1 }).dacL, (ticked { full with rbPos := 1 }).dacR) = (0xFFFE, 0x0003) ∧
    (ticked { full with rbPos := 1 }).rbR = 1 ∧ (ticked { full with rbPos := 1 }).rbPos = 0 ∧
    (ticked { full with rbPos := 1 }).irqFreed = true := by decide +kernel

/-- T8: an underrun. -/
theorem test_tick_underrun :
    tickStep { start with tcEn := true, tcPeriod := 0x200 } = .next { start with tcEn := true, tcPeriod := 0x200 } := rfl

/-- T2, T3. -/
theorem test_tcSetPeriod :
    answer start 0x40000000 0 = refusedResponse ∧ answer start 0x40000000 0x200 = ok 0 ∧
    (ran start 0x40000000 0x200).tcPeriod = 0x200 := by decide +kernel

/-- T1, T7, T10. -/
theorem test_tcEnable :
    answer start 0x41000001 0 = refusedResponse ∧ (ran { start with tcPeriod := 0x200 } 0x41000001 0).tcEn = true ∧
    (ran busy 0x41000000 0).tcEn = false ∧ (ran busy 0x41000000 0).rbPos = 1 := by decide +kernel

/-- T4. -/
theorem test_tcReadPeriod : answer busy 0x42000000 0 = ok 0x200 := by decide +kernel

/-- T9, P4's last output. -/
theorem test_dacRead :
    answer start 0x43000000 0 = ok 0 ∧ answer { start with dacL := 97, dacR := -97 } 0x43000000 0 = ok 0x0061FF9F := by
  decide +kernel

/-- N1, N2. -/
theorem test_nop : answer start 0x00000000 0x12345678 = ok 0 ∧ answer start 0x00000001 0 = illegalResponse := by
  decide +kernel

/-- R118, R119: 32000 Hz and 62 cycles. -/
theorem test_informative : busy.sampleRateHz = some 32000 ∧ busy.cyclesPerBlock = some 62 ∧ start.sampleRateHz = none := by
  decide +kernel

/-- R145: four ticks' worth of samples less the one taken. -/
theorem test_ticks_left : busy.ticksToUnderrun = 3 ∧ start.ticksToUnderrun = 0 := by decide +kernel

/-- R152: the run ends at the last response, so of these ticks the first is in it and the last two are not: `busy` stands at
its block's last sample, and one tick frees that block. -/
theorem test_run_end :
    runLength [.tick, .host 0x30000000 0, .tick, .tick] = 2 ∧ runLength [.tick, .tick] = 0 ∧
    (match runToLastResponse { busy with schedule := [.tick, .host 0x34000000 0, .tick, .tick] } with
      | .next t => decide (t.rbR = 1 ∧ t.rbPos = 0 ∧ t.schedule = [.tick, .tick] ∧ t.response = ok 0x00000102)
      | .fault _ => false
      | .refused _ => false) = true := by decide +kernel

/-- The first step after reset runs the transaction that is presented. -/
theorem test_first_step : ∃ t, step (State.reset.withFetchWord 32 0x33000000) = .next t ∧ t.schedule = [] := ⟨_, rfl, rfl⟩

/-! ## Witnesses: values that meet the hypotheses of each obligation, clause by clause at the bounds -/

/-- The outcome is a next state. -/
def isNext : Host.Outcome State Fault Refusal → Bool
  | .next _ => true
  | .fault _ => false
  | .refused _ => false

theorem next_of_isNext {o : Host.Outcome State Fault Refusal} (h : isNext o = true) : ∃ t, o = .next t := by
  cases o with
  | next t => exact ⟨t, rfl⟩
  | fault r => exact absurd h (by simp [isNext])
  | refused r => exact absurd h (by simp [isNext])

/-- Both branches of `EncodedAs`: the OPC with every other bit 0, and with the lowest and the highest must-be-zero bit
set. -/
def bothBranches (opc : BitVec 8) (lo len : Nat) : Bool :=
  opcField (opc ++ 0#24) == opc && (opc ++ 0#24).extractLsb' lo len == 0#len &&
  ([lo, lo + len - 1].all fun b =>
    opcField ((opc ++ 0#24) ||| (1#32 <<< b)) == opc && ((opc ++ 0#24) ||| (1#32 <<< b)).extractLsb' lo len != 0#len)

theorem start_inv : start.Inv where
  config := test_example_config
  ring := by unfold State.RingOk; decide +kernel
  store := by unfold State.StoreOk; decide +kernel
  timer := by unfold State.TimerOk; decide +kernel
  lfo := by unfold Lfo.Ok; decide +kernel
  glideCount := by decide +kernel
  glide := by unfold Glide.Ok; decide +kernel

theorem busy_inv : busy.Inv where
  config := test_example_config
  ring := by unfold State.RingOk; decide +kernel
  store := by unfold State.StoreOk; decide +kernel
  timer := by unfold State.TimerOk; decide +kernel
  lfo := by unfold Lfo.Ok; decide +kernel
  glideCount := by decide +kernel
  glide := by unfold Glide.Ok; decide +kernel

theorem full_inv : full.Inv where
  config := test_example_config
  ring := by unfold State.RingOk; decide +kernel
  store := by unfold State.StoreOk; decide +kernel
  timer := by unfold State.TimerOk; decide +kernel
  lfo := by unfold Lfo.Ok; decide +kernel
  glideCount := by decide +kernel
  glide := by unfold Glide.Ok; decide +kernel

theorem wrapping_inv : wrapping.Inv where
  config := test_example_config
  ring := by unfold State.RingOk; decide +kernel
  store := by unfold State.StoreOk; decide +kernel
  timer := by unfold State.TimerOk; decide +kernel
  lfo := by unfold Lfo.Ok; decide +kernel
  glideCount := by decide +kernel
  glide := by unfold Glide.Ok; decide +kernel

/-- A legal state with steps still to come: three updates of glide 0 (G12) among a tick and an illegal transaction. -/
def scheduled : State :=
  { busy with schedule := [.host 0x11000000 0, .tick, .host 0x11000000 0, .host 0xFF000000 0, .host 0x11000000 0] }

theorem scheduled_inv : scheduled.Inv := { busy_inv with }

theorem witness_StepKeepsInvariant : scheduled.Inv ∧ ∃ t, step scheduled = .next t :=
  ⟨scheduled_inv, next_of_isNext (by decide +kernel)⟩

theorem witness_NoStepStopsWithinInvariant : busy.Inv ∧ full.Inv ∧ wrapping.Inv := ⟨busy_inv, full_inv, wrapping_inv⟩

/-- A schedule with a transaction, one with none, and a run that reaches its end. -/
theorem witness_EveryRunEndsInALegalState :
    scheduled.Inv ∧ scheduled.schedule.any AgentStep.isHost = true ∧ runLength scheduled.schedule = 5 ∧
    ({ scheduled with schedule := [.tick] } : State).Inv ∧ [AgentStep.tick].any AgentStep.isHost = false ∧
    isNext (runToLastResponse scheduled) = true :=
  ⟨scheduled_inv, by decide, by decide, { busy_inv with }, by decide, by decide +kernel⟩

theorem witness_NoStepWritesParameters : ∃ t, step scheduled = .next t := next_of_isNext (by decide +kernel)

theorem witness_StepRunsDecodedCommand :
    (scheduled.schedule.head? = some (.host 0x11000000 0) ∧ decode 0x11000000 0 = .ok (.glideUpdate 0)) ∧
    scheduled.schedule.tail.head? = some .tick ∧ start.schedule = [] := by decide +kernel

theorem witness_IllegalWordsAnswerIllegal :
    (start.present 0x2100060A 0).schedule = .host 0x2100060A 0 :: [] ∧ legalCommand 0x2100060A = false ∧
    legalCommand 0x10000080 = false ∧ legalCommand 0xFF000000 = false := by decide

theorem witness_UnusedDataIsIgnored :
    decode 0x30000000 5 = .ok .rbStatus ∧ Instr.usesData .rbStatus = false := by decide

theorem witness_RefusedCommandChangesNothing : answer start 0x41000001 0 = refusedResponse ∧ answer busy 0 0 = ok 0 := by
  decide +kernel

/-- Every way an operand is out of range, at its least value; in a state in which the command is otherwise allowed. -/
theorem witness_OutOfRangeOperandsAreRefused :
    (Instr.glideInit 3 1 0).wellFormed busy.cfg = false ∧ (Instr.glideUpdate 3).wellFormed busy.cfg = false ∧
    (Instr.glideRead 3).wellFormed busy.cfg = false ∧ (Instr.glideStatus 3).wellFormed busy.cfg = false ∧
    (Instr.lfoInit 3 1 0).wellFormed busy.cfg = false ∧ (Instr.lfoInit 0 1 0x80000000).wellFormed busy.cfg = false ∧
    (Instr.lfoUpdate 3 1 .ramp true).wellFormed busy.cfg = false ∧ (Instr.lfoPhase 3).wellFormed busy.cfg = false ∧
    (Instr.lfoOut 3).wellFormed busy.cfg = false ∧ (Instr.rbWrite 2 0).wellFormed busy.cfg = false ∧
    (Instr.tcSetPeriod 0).wellFormed busy.cfg = false := by decide +kernel

theorem witness_ReadingCommandsWriteNothing :
    ∀ i ∈ [Instr.nop, .glideRead 0, .glideStatus 0, .lfoPhase 0, .lfoOut 0, .rbStatus, .rbCursors, .tcReadPeriod, .dacRead],
      readsOnly i = true ∧ isNext (exec i busy) = true := by decide +kernel

theorem witness_RepeatedCommandsChangeNothing :
    ∀ i ∈ [Instr.glideInit 0 1 9, .lfoInit 0 10 0, .rbWrite 1 7, .tcSetPeriod 3, .tcEnable false, .rbStatus],
      repeatDiffers i = false ∧ isNext (exec i busy) = true := by decide +kernel

/-- Both ends of a saturating type and one step beyond, and a full-word type. -/
theorem witness_NormStaysInType :
    fxOutput.wellFormed = true ∧ fxOutput.total < 32 ∧ fxOutput.holds (-32768) = true ∧ fxOutput.holds 32767 = true ∧
    (-32769 < fxOutput.minRaw) ∧ (fxOutput.maxRaw < 32768) ∧
    fxPitch.wellFormed = true ∧ fxPitch.total = 32 ∧ fxPitch.holds 0x80000000 = false := by decide +kernel

/-- An absent channel; rate 0; the target equal to the current value; and an increment to compute. -/
theorem witness_GlideInitSnapsOrArms :
    busy.cfg.numGlide ≤ (3 : ChannelNo).toNat ∧
    ((2 : ChannelNo).toNat < busy.cfg.numGlide ∧ busy.glide[(2 : ChannelNo).toNat]? = some ⟨7, 7, 0⟩) ∧
    ((0 : Rate) = 0 ∧ (7 : Word) = (⟨7, 7, 0⟩ : Glide).current ∧ ¬ ((1 : Rate) = 0 ∨ (9 : Word) = (⟨7, 7, 0⟩ : Glide).current)) ∧
    bothBranches 0x10 7 13 = true := by decide +kernel

/-- An absent channel; an idle one; one that arrives exactly; one that crosses, up and down; one that only steps. -/
theorem witness_GlideUpdateStepsOrArrives :
    busy.cfg.numGlide ≤ (3 : ChannelNo).toNat ∧
    busy.glide[(2 : ChannelNo).toNat]? = some ⟨7, 7, 0⟩ ∧ busy.glide[(0 : ChannelNo).toNat]? = some ⟨0, 5, 2⟩ ∧
    Glide.arrives ⟨3, 5, 2⟩ = true ∧ Glide.arrives ⟨4, 5, 2⟩ = true ∧ Glide.arrives ⟨6, 5, -2⟩ = true ∧
    Glide.arrives ⟨2, 5, 2⟩ = false ∧ bothBranches 0x11 0 20 = true := by decide +kernel

theorem witness_GlideReadAnswersCurrent :
    busy.cfg.numGlide ≤ (3 : ChannelNo).toNat ∧ (2 : ChannelNo).toNat < busy.cfg.numGlide ∧
    busy.glide[(2 : ChannelNo).toNat]? = some ⟨7, 7, 0⟩ ∧ bothBranches 0x12 0 20 = true := by decide +kernel

theorem witness_GlideStatusAnswersActive :
    busy.cfg.numGlide ≤ (3 : ChannelNo).toNat ∧ (0 : ChannelNo).toNat < busy.cfg.numGlide ∧
    busy.glide[(0 : ChannelNo).toNat]? = some ⟨0, 5, 2⟩ ∧ busy.glide[(2 : ChannelNo).toNat]? = some ⟨7, 7, 0⟩ ∧
    bothBranches 0x13 0 20 = true := by decide +kernel

theorem witness_GlideCommandsWriteOneChannel :
    (∃ t, exec (.glideInit 2 1 9) busy = .next t) ∧ (∃ t, exec (.glideUpdate 0) busy = .next t) :=
  ⟨next_of_isNext (by decide +kernel), next_of_isNext (by decide +kernel)⟩

/-- G12, D = 5 and q = 2: three updates reach the target, and two do not. -/
theorem witness_GlideConvergesInExactlyCeilUpdates :
    scheduled.Inv ∧ scheduled.glide[(0 : ChannelNo).toNat]? = some ⟨0, 5, 2⟩ ∧ (2 : BitVec 33) ≠ 0 ∧
    (∀ a ∈ scheduled.schedule, a.isGlideInit 0 = false) ∧ scheduled.schedule.countP (·.isGlideUpdate 0) = 3 ∧
    (5 + 2 - 1) / 2 = 3 ∧ ({ scheduled with schedule := scheduled.schedule.tail } : State).Inv ∧
    scheduled.schedule.tail.countP (·.isGlideUpdate 0) = 2 :=
  ⟨scheduled_inv, by decide +kernel, by decide, by decide +kernel, by decide +kernel, by decide, { busy_inv with },
    by decide +kernel⟩

theorem witness_GlideIncrementGrowsWithRate :
    exampleCfg.wellFormed = true ∧ (100 : Int) ≠ 0 ∧ (1 : Rate).toNat ≤ (2 : Rate).toNat :=
  ⟨test_example_config, by decide, by decide⟩

/-- Both ends of the phase, and the sums on either side of 1.0. -/
theorem witness_AdvanceWrapsOrClamps :
    (2 ^ 31 ≤ 2 ^ 31 ∧ 2 ^ 31 - 1 < 2 ^ 31) ∧ advance 0x7FFFFFFF 1 .ramp = 0x80000000 ∧ advance 0x7FFFFFFF 1 .saw = 0 ∧
    advance 0x7FFFFFFE 1 .saw = 0x7FFFFFFF ∧ advance 0x80000000 0x7FFFFFFF .ramp = 0x80000000 := by decide

theorem witness_WaveFollowsFormulasInRange :
    2 ^ 31 ≤ 2 ^ 31 ∧ (2 ^ 31) >>> 15 = 65536 ∧ 65536 % 65536 = 0 ∧ 0x7FFF8000 >>> 15 = 65535 ∧ 0x40000000 >>> 15 = 32768 := by
  decide

theorem witness_FoldSaturatesAbsoluteValue : (-32768 : Int) ≤ -32768 ∧ (32767 : Int) ≤ 32767 := by decide

theorem witness_LfoInitArmsReset :
    3 ≤ (3 : ChannelNo).toNat ∧ 2 ^ 31 ≤ (0x80000000 : Word).toNat ∧ (0x7FFFFFFF : Word).toNat < 2 ^ 31 ∧
    busy.lfo[(2 : ChannelNo).toNat]? = some ⟨0, 0, true, 0x40000000, 0⟩ ∧ bothBranches 0x20 7 13 = true := by
  decide +kernel

/-- A pending reset and a phase of 1.0; words of both outcomes, each must-be-zero bit and a reserved shape. -/
theorem witness_LfoUpdateAdvancesAndOutputs :
    3 ≤ (3 : ChannelNo).toNat ∧ busy.lfo[(2 : ChannelNo).toNat]? = some ⟨0, 0, true, 0x40000000, 0⟩ ∧
    busy.lfo[(1 : ChannelNo).toNat]? = some ⟨0x80000000, 0, false, 0x60000000, 0xD000⟩ ∧
    (opcField 0x21200D7F = 0x21 ∧ BitVec.extractLsb' 12 8 0x21200D7F#32 = 0 ∧ BitVec.getLsbD 0x21200D7F#32 7 = false ∧
      (shapeField 0x21200D7F).toNat < 6) ∧
    (BitVec.extractLsb' 12 8 0x21001000#32 ≠ 0 ∧ BitVec.extractLsb' 12 8 0x21080000#32 ≠ 0 ∧
      BitVec.getLsbD 0x21000080#32 7 = true ∧ ¬ (shapeField 0x21000600).toNat < 6) := by decide +kernel

theorem witness_LfoUpdate_channel_ok : Lfo.Ok ⟨0x80000000, 0, false, 0x60000000, 0xD000⟩ := by unfold Lfo.Ok; decide

theorem witness_LfoPhaseAnswersPhase :
    3 ≤ (3 : ChannelNo).toNat ∧ busy.lfo[(1 : ChannelNo).toNat]? = some ⟨0x80000000, 0, false, 0x60000000, 0xD000⟩ ∧
    Shape.saw ≠ .ramp ∧ isNext (exec (.lfoUpdate 1 127 .saw false) busy) = true ∧
    ((ran busy 0x2110017F 0).lfo[(1 : ChannelNo).toNat]?.map (·.phase)) = some 0x7FFFFFFF#32 ∧
    bothBranches 0x22 0 20 = true := by decide +kernel

theorem witness_LfoOutAnswersOutput :
    3 ≤ (3 : ChannelNo).toNat ∧ busy.lfo[(1 : ChannelNo).toNat]? = some ⟨0x80000000, 0, false, 0x60000000, 0xD000⟩ ∧
    bothBranches 0x23 0 20 = true := by decide +kernel

theorem witness_LfoCommandsWriteOneChannel :
    (∃ t, exec (.lfoInit 2 10 0) busy = .next t) ∧ (∃ t, exec (.lfoUpdate 0 20 .sine true) busy = .next t) :=
  ⟨next_of_isNext (by decide +kernel), next_of_isNext (by decide +kernel)⟩

theorem witness_RampStaysAtOne :
    busy.lfo[(1 : ChannelNo).toNat]? = some ⟨0x80000000, 0, false, 0x60000000, 0xD000⟩ ∧
    (0x80000000 : Word).toNat = 2 ^ 31 ∧ isNext (exec (.lfoUpdate 1 20 .ramp true) busy) = true := by decide +kernel

theorem witness_RandomOutputIsAFreshDraw : (2 : ChannelNo).toNat < 3 := by decide

theorem witness_GlideAndLfoUpdatesCommute :
    ∃ a b a' b', exec (.glideUpdate 0) busy = .next a ∧ exec (.lfoUpdate 0 20 .sine false) a = .next b ∧
      exec (.lfoUpdate 0 20 .sine false) busy = .next a' ∧ exec (.glideUpdate 0) a' = .next b' :=
  ⟨_, _, _, _, rfl, rfl, rfl, rfl⟩

theorem witness_RingCountsAddUp : start.Inv ∧ start.occ = 0 ∧ full.Inv ∧ full.occ = 3 ∧ wrapping.Inv ∧ wrapping.occ = 1 :=
  ⟨start_inv, by decide, full_inv, by decide, wrapping_inv, by decide⟩

theorem witness_RbStatusAnswersStatusWord : full.Inv ∧ start.Inv ∧ bothBranches 0x30 0 24 = true :=
  ⟨full_inv, start_inv, by decide +kernel⟩

/-- A full ring; an index of S and of S - 1; an address. -/
theorem witness_RbWriteWritesProducerBlock :
    full.writable = 0 ∧ busy.cfg.blockSize ≤ (2 : BitVec 16).toNat ∧ busy.writable ≠ 0 ∧
    (1 : BitVec 16).toNat < busy.cfg.blockSize ∧ 5 = (busy.rbW.toNat % busy.cfg.numBlocks) * busy.cfg.blockSize + 1 ∧
    busy.Inv ∧ 1 ≤ busy.occ ∧ bothBranches 0x31 16 8 = true :=
  ⟨by decide, by decide, by decide, by decide, by decide, busy_inv, by decide, by decide +kernel⟩

theorem witness_RbCommitPublishesBlock :
    full.writable = 0 ∧ busy.Inv ∧ busy.writable ≠ 0 ∧ wrapping.Inv ∧ wrapping.writable ≠ 0 ∧ 1 ≤ wrapping.occ ∧
    (∃ t, tickStep wrapping = .next t) ∧ bothBranches 0x32 0 24 = true :=
  ⟨by decide, busy_inv, by decide, wrapping_inv, by decide, by decide, next_of_isNext (by decide +kernel),
    by decide +kernel⟩

theorem witness_RbAckReadsThenClears : (∃ t, exec .rbAck wrapping = .next t) ∧ bothBranches 0x33 0 24 = true :=
  ⟨next_of_isNext (by decide +kernel), by decide +kernel⟩

theorem witness_RbCursorsAnswersCursors : bothBranches 0x34 0 24 = true := by decide +kernel

theorem witness_RingCommandsWriteOnlyTheirPart :
    (∃ t, exec (.rbWrite 1 7) busy = .next t) ∧ sampleAddress busy.cfg busy.wblk (1 : BitVec 16).toNat = 5 ∧
    (∃ t, exec .rbCommit busy = .next t) ∧ (∃ t, exec .rbAck busy = .next t) :=
  ⟨next_of_isNext (by decide +kernel), by decide, next_of_isNext (by decide +kernel), next_of_isNext (by decide +kernel)⟩

theorem witness_ProducerBlockIsNotReadable : busy.Inv ∧ busy.occ < busy.cfg.numBlocks ∧ 1 ≤ busy.occ :=
  ⟨busy_inv, by decide, by decide⟩

/-- A write beside readable blocks: both readable blocks of `busy`, at both samples. -/
theorem witness_ReadableWordsAreStable :
    (busy.present 0x31000001 7).Inv ∧ (∃ t, step (busy.present 0x31000001 7) = .next t) ∧
    (busy.present 0x31000001 7).isReadableBlock 0 = true ∧ (busy.present 0x31000001 7).isReadableBlock 1 = true ∧
    1 < busy.cfg.blockSize :=
  ⟨{ busy_inv with }, next_of_isNext (by decide +kernel), by decide, by decide, by decide⟩

theorem witness_EachCursorHasOneWriter :
    (∃ t, exec .rbCommit busy = .next t) ∧ Instr.rbAck ≠ .rbCommit ∧ ∃ t, tickStep busy = .next t :=
  ⟨next_of_isNext (by decide +kernel), by decide, next_of_isNext (by decide +kernel)⟩

theorem witness_OnlyAckClearsFreed :
    isNext (exec .rbAck wrapping) = true ∧ (isNext (tickStep wrapping) = true ∧ wrapping.rbFreed = true) ∧
    (isNext (tickStep busy) = true ∧ (ticked busy).rbFreed ≠ busy.rbFreed) := by decide +kernel

/-- The block's last sample, written; and its first, unwritten. -/
theorem witness_TickConsumesOneSample :
    (busy.Inv ∧ busy.tcEn = true ∧ 1 ≤ busy.occ ∧
      1 = (busy.rbR.toNat % busy.cfg.numBlocks) * busy.cfg.blockSize + busy.rbPos.toNat ∧
      busy.store.read? 1 = some 0xFFFE0003 ∧ busy.rbPos.toNat + 1 = busy.cfg.blockSize) ∧
    (full.Inv ∧ full.tcEn = true ∧ 1 ≤ full.occ ∧ full.store.read? 0 = none ∧
      full.rbPos.toNat + 1 ≠ full.cfg.blockSize) :=
  ⟨⟨busy_inv, by decide⟩, ⟨full_inv, by decide⟩⟩

theorem witness_UnderrunChangesNothing : ({ busy with rbR := 2 } : State).occ = 0 ∧ start.occ = 0 := by decide

theorem witness_TickWritesReadSideOnly : ∃ t, tickStep busy = .next t := next_of_isNext (by decide +kernel)

theorem witness_TicksLeftBeforeUnderrun :
    busy.Inv ∧ busy.tcEn = true ∧ 1 ≤ busy.occ ∧ (∃ t, tickStep busy = .next t) ∧ busy.writable ≠ 0 ∧
    ∃ t, exec .rbCommit busy = .next t :=
  ⟨busy_inv, by decide, by decide, next_of_isNext (by decide +kernel), by decide, next_of_isNext (by decide +kernel)⟩

/-- Two ticks and a command before the last readable sample goes out: j = 2 of 3. -/
theorem witness_ReadableSamplesPlayInOrder :
    let before : List AgentStep := [.tick, .host 0x32000000 0, .tick]
    ({ busy with schedule := before ++ [.tick] } : State).Inv ∧ busy.tcEn = true ∧
    (∀ a ∈ before, a.isTcEnable = false) ∧ before.countP (·.isTick) = 2 ∧ 2 < busy.ticksToUnderrun ∧
    busy.store.read? (sampleAddress busy.cfg
      ((busy.rbR.toNat + (busy.rbPos.toNat + 2) / busy.cfg.blockSize) % busy.cfg.numBlocks)
      ((busy.rbPos.toNat + 2) % busy.cfg.blockSize)) = some 0x00070008 :=
  ⟨{ busy_inv with }, by decide, by decide, by decide, by decide, by decide⟩

theorem witness_TcSetPeriodStoresPeriod : (1 : Word) ≠ 0 ∧ bothBranches 0x40 0 24 = true := by decide +kernel

theorem witness_TcEnableStartsOrStopsTick :
    start.tcPeriod = 0 ∧ busy.tcPeriod ≠ 0 ∧ bothBranches 0x41 1 23 = true := by decide +kernel

theorem witness_TcReadPeriodAnswersPeriod : bothBranches 0x42 0 24 = true := by decide +kernel

theorem witness_DacReadAnswersDac : bothBranches 0x43 0 24 = true := by decide +kernel

theorem witness_NopDoesNothing : bothBranches 0x00 0 24 = true := by decide +kernel

theorem witness_TimingCommandsWriteOnlyTheirRegister :
    (∃ t, exec (.tcSetPeriod 7) busy = .next t) ∧ ∃ t, exec (.tcEnable false) busy = .next t :=
  ⟨next_of_isNext (by decide +kernel), next_of_isNext (by decide +kernel)⟩

theorem witness_PeriodValueIsNotObservable :
    scheduled.tcPeriod ≠ 0 ∧ (1 : Word) ≠ 0 ∧ isNext (step scheduled) = true ∧
    (∀ a ∈ scheduled.schedule.head?, a.command? ≠ some .tcReadPeriod) := by decide +kernel

theorem witness_EncodeOfDecode :
    decode 0x10300001 7 = .ok (.glideInit 3 1 7) ∧ decode 0x41000001 7 = .ok (.tcEnable true) := by decide

/-- A legal word of every row, and what the decoder makes of it, for the obligations about the encoding. -/
theorem witness_DecodeAcceptsExactlyTheTable :
    legalCommand 0x21200D7F = true ∧ decode 0x21200D7F 0 = .ok (.lfoUpdate 2 127 .random true) ∧
    opcodeTable.all (fun row => legalCommand row.value) = true := by decide +kernel

end Sys2Proof.Tests
end

section
/-! SUPPORT. What a command and a tick can do to the state, and which agent writes which part of it (R7, R27 to R36). -/

namespace Sys2Proof.Machine

/-! ## Commands -/

/-- The state `t` a command can leave the state `s` in: one constructor for the commands that only read, one for a
refusal, and one for each command that writes, under the conditions of its rule. -/
inductive CommandEffect (s : State) : Instr → State → Prop where
  | answers {i : Instr} (hi : readsOnly i = true) (rdata : Word) : CommandEffect s i (s.respond .ok rdata)
  | refuses (i : Instr) : CommandEffect s i (s.respond .refused 0)
  | glideInit {ch : ChannelNo} {g : Glide} (rate : Rate) (target : Word) (hch : ch.toNat < s.cfg.numGlide)
      (hg : s.glide[ch.toNat]? = some g) :
      CommandEffect s (.glideInit ch rate target)
        ((s.setGlide ch (g.init rate target (glideCoefAt s.cfg rate))).respond .ok
          (g.init rate target (glideCoefAt s.cfg rate)).current)
  | glideUpdate {ch : ChannelNo} {g : Glide} (hch : ch.toNat < s.cfg.numGlide) (hg : s.glide[ch.toNat]? = some g) :
      CommandEffect s (.glideUpdate ch) ((s.setGlide ch g.update).respond .ok g.update.current)
  | lfoInit {ch : ChannelNo} {l : Lfo} {startPhase : Word} (rate : Rate) (hl : s.lfo[ch.toNat]? = some l)
      (hphase : startPhase.toNat < 2 ^ 31) :
      CommandEffect s (.lfoInit ch rate startPhase)
        ((s.setLfo ch (l.init (lfoIncAt s.cfg rate) startPhase)).respond .ok 0)
  | lfoUpdate {ch : ChannelNo} {l : Lfo} (rate : Rate) (shape : Shape) (abs : Bool)
      (hl : s.lfo[ch.toNat]? = some l) :
      CommandEffect s (.lfoUpdate ch rate shape abs)
        (((s.setLfo ch (l.update s.cfg rate shape abs (Config.freeRandom s.draws))).takeDraws
          (Shape.drawCount shape)).respond .ok
            (l.update s.cfg rate shape abs (Config.freeRandom s.draws)).outWord)
  | rbWrite {index : BitVec 16} (sample : Word) (hspace : s.writable ≠ 0) (hindex : index.toNat < s.cfg.blockSize) :
      CommandEffect s (.rbWrite index sample)
        ((s.writeSample (sampleAddress s.cfg s.wblk index.toNat) sample).respond .ok 0)
  | rbCommit (hspace : s.writable ≠ 0) :
      CommandEffect s .rbCommit (s.advanceW.respond .ok s.advanceW.statusWord)
  | rbAck : CommandEffect s .rbAck (s.clearFreed.respond .ok s.statusWord)
  | tcSetPeriod {period : Word} (hperiod : period ≠ 0) :
      CommandEffect s (.tcSetPeriod period) ((s.setPeriod period).respond .ok 0)
  | tcEnable {en : Bool} (hperiod : ¬ (en = true ∧ s.tcPeriod = 0)) :
      CommandEffect s (.tcEnable en) ((s.setEnable en).respond .ok 0)

/-- A glide command needs its effect shown only on a channel that exists: elsewhere it is refused (R128). -/
theorem CommandEffect.withGlide {s : State} {i : Instr} {ch : ChannelNo} {k : Glide → State}
    (hk : ∀ g, ch.toNat < s.cfg.numGlide → s.glide[ch.toNat]? = some g → CommandEffect s i (k g)) :
    CommandEffect s i (s.withGlide ch k) := by
  obtain h | ⟨g, hch, hg, h⟩ := s.withGlide_cases ch k
  · exact h ▸ .refuses i
  · exact h ▸ hk g hch hg

/-- An LFO command needs its effect shown only on a channel that exists: elsewhere it is refused (R128). -/
theorem CommandEffect.withLfo {s : State} {i : Instr} {ch : ChannelNo} {k : Lfo → State}
    (hk : ∀ l, s.lfo[ch.toNat]? = some l → CommandEffect s i (k l)) : CommandEffect s i (s.withLfo ch k) := by
  obtain h | ⟨l, hl, h⟩ := s.withLfo_cases ch k
  · exact h ▸ .refuses i
  · exact h ▸ hk l hl

/-- Every next state of a command is one of its effects. -/
theorem exec_effect {i : Instr} {s t : State} (h : exec i s = .next t) : CommandEffect s i t := by
  cases i <;> obtain rfl := Host.Outcome.next.inj h
  case nop | rbStatus | rbCursors | tcReadPeriod | dacRead => exact .answers rfl _
  case glideInit ch rate target => exact .withGlide fun _ hch hg => .glideInit rate target hch hg
  case glideUpdate ch => exact .withGlide fun _ hch hg => .glideUpdate hch hg
  case glideRead ch | glideStatus ch => exact .withGlide fun _ _ _ => .answers rfl _
  case lfoInit ch rate startPhase =>
    refine .withLfo fun l hl => ?_
    split
    · exact .refuses _
    · next hphase => exact .lfoInit rate hl (Nat.lt_of_not_le hphase)
  case lfoUpdate ch rate shape abs => exact .withLfo fun _ hl => .lfoUpdate rate shape abs hl
  case lfoPhase ch | lfoOut ch => exact .withLfo fun _ _ => .answers rfl _
  case rbWrite index sample =>
    split
    · exact .refuses _
    · next hspace =>
      split
      · exact .refuses _
      · next hindex => exact .rbWrite sample hspace (Nat.lt_of_not_le hindex)
  case rbCommit =>
    split
    · exact .refuses _
    · next hspace => exact .rbCommit hspace
  case rbAck => exact .rbAck
  case tcSetPeriod period =>
    split
    · exact .refuses _
    · next hperiod => exact .tcSetPeriod hperiod
  case tcEnable en =>
    split
    · exact .refuses _
    · next hperiod => exact .tcEnable hperiod

theorem exec_cfg {i : Instr} {s t : State} (h : exec i s = .next t) : t.cfg = s.cfg := by
  cases exec_effect h <;> simp

/-- No command moves the read position or writes the D/A registers (R29, R30, R36). -/
theorem exec_consumer_frame {i : Instr} {s t : State} (h : exec i s = .next t) :
    t.rbR = s.rbR ∧ t.rbPos = s.rbPos ∧ t.dacL = s.dacL ∧ t.dacR = s.dacR := by
  cases exec_effect h <;> simp

/-- RB_COMMIT alone moves the write cursor (R28). -/
theorem exec_rbW {i : Instr} {s t : State} (h : exec i s = .next t) (hi : i ≠ .rbCommit) : t.rbW = s.rbW := by
  cases exec_effect h
  case rbCommit => exact absurd rfl hi
  all_goals simp

theorem transact_cfg {cmd data : Word} {s t : State} (h : transact cmd data s = .next t) : t.cfg = s.cfg := by
  obtain ⟨i, -, heq⟩ | ⟨e, -, heq⟩ := transact_cases cmd data s
  · exact exec_cfg (heq.symm.trans h)
  · obtain rfl := Host.Outcome.next.inj (heq.symm.trans h)
    simp

/-! ## Ticks -/

@[simp] theorem State.afterSample_cfg (s : State) (v : Word) (n : Nat) : (s.afterSample v n).cfg = s.cfg := rfl
@[simp] theorem State.afterSample_rbW (s : State) (v : Word) (n : Nat) : (s.afterSample v n).rbW = s.rbW := rfl

/-- A tick that does not fault leaves the state, or puts one sample out. -/
theorem tickStep_next_cases {s t : State} (h : tickStep s = .next t) : t = s ∨ ∃ v n, t = s.afterSample v n := by
  obtain ⟨-, heq⟩ | ⟨-, -, -, heq⟩ | ⟨-, -, -, heq⟩ := tickStep_cases s
  · exact .inl (Host.Outcome.next.inj (h.symm.trans heq))
  · cases h.symm.trans heq
  · exact .inr ⟨_, _, Host.Outcome.next.inj (h.symm.trans heq)⟩

theorem tickStep_cfg {s t : State} (h : tickStep s = .next t) : t.cfg = s.cfg := by
  obtain rfl | ⟨v, n, rfl⟩ := tickStep_next_cases h <;> simp

theorem tickStep_rbW {s t : State} (h : tickStep s = .next t) : t.rbW = s.rbW := by
  obtain rfl | ⟨v, n, rfl⟩ := tickStep_next_cases h <;> simp

/-! ## The obligations -/

/-- Settles O6: neither a transaction nor a tick writes the parameters, and a step is one of the two or none. -/
theorem noStepWritesParameters : Obligations.NoStepWritesParameters := by
  intro s t h
  obtain ⟨-, heq⟩ | ⟨cmd, data, rest, -, heq⟩ | ⟨rest, -, heq⟩ := step_cases s
  · obtain rfl := Host.Outcome.next.inj (heq.symm.trans h)
    rfl
  · exact (transact_cfg (heq.symm.trans h)).trans s.dropStep_cfg
  · exact (tickStep_cfg (heq.symm.trans h)).trans s.dropStep_cfg

/-- Settles O47, from the frames of the commands and of the tick. -/
theorem eachCursorHasOneWriter : Obligations.EachCursorHasOneWriter := by
  refine ⟨fun i s t h => ?_, fun s t h => tickStep_rbW h⟩
  obtain ⟨hrbR, hrbPos, hdacL, hdacR⟩ := exec_consumer_frame h
  exact ⟨hrbR, hrbPos, hdacL, hdacR, exec_rbW h⟩

end Sys2Proof.Machine
end

section
/-! SUPPORT. R49: the state after reset meets the invariant and every step of either agent keeps it; and who writes the
freed-block flag (R31, R111, R115). -/

namespace Sys2Proof.Machine

/-! ## Glide channels keep their ranges and the sign of their increment (R42 to R44, R92, R93) -/

/-- The increment never exceeds the distance: the coefficient is a fraction of at most 1 (R15, R92). -/
theorem glideIncrement_natAbs_le (delta : Int) {coef : Nat} (hcoef : coef ≤ 65536) :
    (glideIncrement delta coef).natAbs ≤ delta.natAbs := by
  unfold glideIncrement
  split
  · rw [Int.natAbs_sign]
    split <;> omega
  · rw [Int.natAbs_tdiv, Int.natAbs_mul]
    exact Nat.div_le_of_le_mul (by simpa [Nat.mul_comm] using Nat.mul_le_mul_left delta.natAbs hcoef)

/-- The increment has the sign of the distance: truncation loses the sign only where it gives 0, which the rule replaces
(R92, R97). -/
theorem glideIncrement_sign (delta : Int) (coef : Nat) : (glideIncrement delta coef).sign = delta.sign := by
  unfold glideIncrement
  split
  · exact Int.sign_sign
  · next hq =>
    have hcoef : (coef : Int).sign = 1 := by
      refine Int.sign_eq_one_of_pos (Int.natCast_pos.mpr (Nat.pos_of_ne_zero ?_))
      rintro rfl
      simp at hq
    have hsign : ((delta * coef).tdiv 65536).sign ≠ 0 := by rwa [Ne, Int.sign_eq_zero_iff_zero]
    rw [Int.sign_tdiv] at hsign ⊢
    split at hsign
    · exact absurd rfl hsign
    · next hlarge =>
      rw [if_neg hlarge, Int.sign_mul, hcoef, Int.mul_one]
      exact Int.mul_one _

/-- The range of an sQ16.16 raw value (R42, R43). -/
theorem word_toInt_bounds (w : Word) : -2 ^ 31 ≤ w.toInt ∧ w.toInt < 2 ^ 31 := ⟨w.le_toInt, BitVec.toInt_lt⟩

/-- The distance between two 32-bit values fits 33 bits. -/
theorem Glide.distanceTo_natAbs_le (g : Glide) (target : Word) : (g.distanceTo target).natAbs ≤ 2 ^ 32 - 1 := by
  obtain ⟨htargetMin, htargetMax⟩ := word_toInt_bounds target
  obtain ⟨hcurrentMin, hcurrentMax⟩ := word_toInt_bounds g.current
  rw [Glide.distanceTo]
  omega

/-- An armed channel holds the exact increment: it fits 33 bits (R44, R92). -/
theorem Glide.armed_inc_toInt (g : Glide) (target : Word) {coef : Nat} (hcoef : coef ≤ 65536) :
    (g.armed target coef).inc.toInt = glideIncrement (g.distanceTo target) coef := by
  have hq := (glideIncrement_natAbs_le (g.distanceTo target) hcoef).trans (g.distanceTo_natAbs_le target)
  exact BitVec.toInt_ofInt_eq_self (by decide) (by omega) (by omega)

theorem Glide.armed_ok (g : Glide) {target : Word} {coef : Nat} (hcoef : coef ≤ 65536)
    (htarget : target ≠ g.current) : (g.armed target coef).Ok := by
  have hq := (glideIncrement_natAbs_le (g.distanceTo target) hcoef).trans (g.distanceTo_natAbs_le target)
  have hinc := g.armed_inc_toInt target hcoef
  refine ⟨by omega, fun _ => ⟨htarget.symm, ?_⟩⟩
  rw [hinc, glideIncrement_sign]
  rfl

/-- A channel with increment 0 is idle, so (I5) asks nothing of its values (R45). -/
theorem Glide.ok_of_idle {g : Glide} (h : g.inc = 0) : g.Ok :=
  ⟨by rw [h]; decide, fun hinc => absurd h hinc⟩

/-- GLIDE_INIT leaves a legal channel, whatever the channel was. -/
theorem Glide.init_ok (g : Glide) (rate : Rate) (target : Word) {coef : Nat} (hcoef : coef ≤ 65536) :
    (g.init rate target coef).Ok := by
  rw [Glide.init]
  split
  · exact Glide.ok_of_idle rfl
  · next h => exact g.armed_ok hcoef fun htarget => h (.inr htarget)

/-- The step of a glide that does not arrive stays strictly on its side of the target, so it does not wrap (R93). -/
theorem Glide.between_of_not_arrives {g : Glide} (hinc : g.inc ≠ 0) (h : ¬ g.arrives = true) :
    (0 < g.inc.toInt ∧ g.nextValue < g.target.toInt) ∨ (g.inc.toInt < 0 ∧ g.target.toInt < g.nextValue) := by
  have hne : g.inc.toInt ≠ 0 := fun h0 => hinc (BitVec.toInt_inj.mp h0)
  rw [Glide.arrives_iff] at h
  rw [Glide.nextValue]
  omega

theorem Glide.nextValue_toInt {g : Glide} (hinc : g.inc ≠ 0) (h : ¬ g.arrives = true) :
    (BitVec.ofInt 32 g.nextValue).toInt = g.nextValue := by
  obtain ⟨htargetMin, htargetMax⟩ := word_toInt_bounds g.target
  obtain ⟨hcurrentMin, hcurrentMax⟩ := word_toInt_bounds g.current
  have hnext : g.nextValue = g.current.toInt + g.inc.toInt := rfl
  have hbetween := Glide.between_of_not_arrives hinc h
  exact BitVec.toInt_ofInt_eq_self (by decide) (by omega) (by omega)

/-- GLIDE_UPDATE keeps (I5): it stops at the target, or steps toward it and stays short of it. -/
theorem Glide.Ok.update {g : Glide} (hg : g.Ok) : g.update.Ok := by
  rw [Glide.update]
  split
  · exact hg
  · next hinc =>
    split
    · exact Glide.ok_of_idle rfl
    · next harrives =>
      obtain ⟨hrange, -⟩ := hg
      have hnext := Glide.nextValue_toInt hinc harrives
      refine ⟨hrange, fun _ => ?_⟩
      rw [← BitVec.toInt_ne, hnext]
      obtain ⟨hsign, hshort⟩ | ⟨hsign, hshort⟩ := Glide.between_of_not_arrives hinc harrives
      · exact ⟨hshort.ne, by rw [Int.sign_eq_one_of_pos hsign, Int.sign_eq_one_of_pos (Int.sub_pos_of_lt hshort)]⟩
      · exact ⟨hshort.ne', by
          rw [Int.sign_eq_neg_one_of_neg hsign, Int.sign_eq_neg_one_of_neg (Int.sub_neg_of_lt hshort)]⟩

theorem glideCoefAt_le (cfg : Config) (rate : Rate) : glideCoefAt cfg rate ≤ 65536 :=
  Nat.le_of_lt_succ (cfg.glideCoef[rate.toNat]'rate.isLt).isLt

/-! ## LFO channels keep their ranges (R37 to R40, R99, R103, R104) -/

theorem advance_le {p inc : Nat} (hp : p ≤ 2 ^ 31) (hinc : inc < 2 ^ 31) (shape : Shape) :
    advance p inc shape ≤ 2 ^ 31 := by
  unfold advance phaseOne
  split
  · exact Nat.min_le_right _ _
  · split <;> omega

theorem Lfo.Ok.init {l : Lfo} (hl : l.Ok) {inc startPhase : Word} (hinc : inc.toNat < 2 ^ 31)
    (hstart : startPhase.toNat < 2 ^ 31) : (l.init inc startPhase).Ok :=
  ⟨hl.1, hinc, hstart⟩

theorem Lfo.Ok.nextPhase_le {l : Lfo} (hl : l.Ok) {inc : Word} (hinc : inc.toNat < 2 ^ 31) (shape : Shape) :
    (l.nextPhase inc shape).toNat ≤ 2 ^ 31 := by
  obtain ⟨hphase, -, hreset⟩ := hl
  rw [Lfo.nextPhase]
  split
  · exact hreset.le
  · rw [BitVec.toNat_ofNat]
    exact (Nat.mod_le _ _).trans (advance_le hphase hinc shape)

theorem Lfo.Ok.update {l : Lfo} (hl : l.Ok) (cfg : Config) (rate : Rate) (shape : Shape) (abs : Bool)
    (random : Channel) : (l.update cfg rate shape abs random).Ok := by
  have hphase := hl.nextPhase_le (lfoIncAt_lt cfg rate) shape
  obtain ⟨-, -, hreset⟩ := hl
  exact ⟨hphase, lfoIncAt_lt cfg rate, hreset⟩

/-! ## The ring keeps its ranges (R28 to R30, R107, R110, R115) -/

theorem State.RingOk.advanceW {s : State} (h : s.RingOk) (hn : s.cfg.numBlocks ≤ 127) (hspace : s.writable ≠ 0) :
    s.advanceW.RingOk := by
  obtain ⟨hw, hr, -, -, hpos⟩ := h
  have hocc : s.occ < s.cfg.numBlocks := Nat.lt_of_sub_ne_zero hspace
  have hocc' : s.advanceW.occ = s.occ + 1 := cursorOcc_next_write hn hw hr hocc
  refine ⟨cursorNext_lt hn hw, hr, ?_, fun h0 => ?_, hpos⟩
  · rw [hocc']
    exact hocc
  · omega

theorem State.RingOk.advanceRead {s : State} (h : s.RingOk) (hn : s.cfg.numBlocks ≤ 127)
    (hsize : 1 ≤ s.cfg.blockSize ∧ s.cfg.blockSize ≤ 65536) (hocc : 1 ≤ s.occ) : s.advanceRead.RingOk := by
  obtain ⟨hw, hr, hle, -, hpos⟩ := h
  by_cases hend : s.rbPos.toNat + 1 = s.cfg.blockSize
  · have hocc' : cursorOcc s.cfg.numBlocks s.rbW.toNat (cursorNext s.cfg.numBlocks s.rbR).toNat + 1 = s.occ :=
      cursorOcc_next_read hn hw hr hocc
    rw [State.advanceRead_last hend]
    exact ⟨hw, cursorNext_lt hn hr, (Nat.le_of_lt (Nat.lt_of_succ_le hocc'.le)).trans hle, fun _ => rfl, hsize.1⟩
  · have hpos' : (s.rbPos + 1).toNat < s.cfg.blockSize := by bv_omega
    rw [State.advanceRead_inside hend]
    exact ⟨hw, hr, hle, fun h0 => absurd h0 (Nat.ne_of_gt hocc), hpos'⟩

/-! ## The invariant and the state's operations -/

theorem State.Inv.respond {s : State} (hs : s.Inv) (status : Status) (rdata : Word) : (s.respond status rdata).Inv :=
  { hs with }

theorem State.Inv.takeDraws {s : State} (hs : s.Inv) (n : Nat) : (s.takeDraws n).Inv := { hs with }

theorem State.Inv.clearFreed {s : State} (hs : s.Inv) : s.clearFreed.Inv := { hs with }

theorem State.Inv.setDac {s : State} (hs : s.Inv) (v : Word) : (s.setDac v).Inv := { hs with }

theorem State.Inv.dropStep {s : State} (hs : s.Inv) : s.dropStep.Inv := { hs with }

theorem State.Inv.setGlide {s : State} (hs : s.Inv) (ch : ChannelNo) {g : Glide} (hg : g.Ok) : (s.setGlide ch g).Inv :=
  { hs with
    glideCount := by simpa using hs.glideCount
    glide := fun g' hg' => (List.mem_or_eq_of_mem_set hg').elim (hs.glide g') fun heq => heq ▸ hg }

theorem State.Inv.setLfo {s : State} (hs : s.Inv) (ch : ChannelNo) {l : Lfo} (hl : l.Ok) : (s.setLfo ch l).Inv :=
  { hs with
    lfo := fun k hk => by
      rw [getElem_congr_coll (s.setLfo_lfo ch l), Vector.getElem_setIfInBounds hk]
      split
      · exact hl
      · exact hs.lfo k hk }

theorem State.Inv.writeSample {s : State} (hs : s.Inv) {a : Nat} (ha : a < storeSize s.cfg) (v : Word) :
    (s.writeSample a v).Inv :=
  { hs with
    store := by
      obtain ⟨hwf, haddr⟩ := hs.store
      refine ⟨Memory.wf_write a v hwf, fun cell hcell => ?_⟩
      obtain rfl | hold := Memory.mem_write hcell
      · exact ha
      · exact haddr cell hold }

theorem State.Inv.advanceW {s : State} (hs : s.Inv) (hspace : s.writable ≠ 0) : s.advanceW.Inv :=
  { hs with
    ring := by
      obtain ⟨-, hn, -⟩ := Config.ring_bounds hs.config
      exact hs.ring.advanceW hn hspace }

theorem State.Inv.advanceRead {s : State} (hs : s.Inv) (hocc : 1 ≤ s.occ) : s.advanceRead.Inv :=
  { hs with
    ring := by
      obtain ⟨-, hn, hmin, hmax, -⟩ := Config.ring_bounds hs.config
      exact hs.ring.advanceRead hn ⟨hmin, hmax⟩ hocc }

theorem State.Inv.setPeriod {s : State} (hs : s.Inv) {period : Word} (hperiod : period ≠ 0) :
    (s.setPeriod period).Inv :=
  { hs with timer := fun _ => hperiod }

theorem State.Inv.setEnable {s : State} (hs : s.Inv) {en : Bool} (hperiod : ¬ (en = true ∧ s.tcPeriod = 0)) :
    (s.setEnable en).Inv :=
  { hs with timer := fun hen h0 => hperiod ⟨hen, h0⟩ }

/-- The LFO channel a command names is a legal one. -/
theorem State.Inv.lfo_ok {s : State} (hs : s.Inv) {k : Nat} {l : Lfo} (hl : s.lfo[k]? = some l) : l.Ok := by
  obtain ⟨hk, rfl⟩ := Vector.getElem?_eq_some_iff.mp hl
  exact hs.lfo k hk

/-- The block the producer fills is one of the ring's (R107). -/
theorem State.Inv.wblk_lt {s : State} (hs : s.Inv) : s.wblk < s.cfg.numBlocks :=
  Nat.mod_lt _ (Nat.zero_lt_two.trans_le (Config.ring_bounds hs.config).1)

/-! ## The invariant and the steps of the two agents -/

theorem CommandEffect.inv {s t : State} {i : Instr} (h : CommandEffect s i t) (hs : s.Inv) : t.Inv := by
  cases h with
  | answers | refuses => exact hs.respond _ _
  | glideInit rate target _ _ => exact (hs.setGlide _ (Glide.init_ok _ rate target (glideCoefAt_le _ _))).respond _ _
  | glideUpdate _ hg => exact (hs.setGlide _ (hs.glide _ (List.mem_of_getElem? hg)).update).respond _ _
  | lfoInit rate hl hphase =>
    exact (hs.setLfo _ ((hs.lfo_ok hl).init (lfoIncAt_lt _ rate) hphase)).respond _ _
  | lfoUpdate rate shape abs hl =>
    exact ((hs.setLfo _ ((hs.lfo_ok hl).update _ rate shape abs _)).takeDraws _).respond _ _
  | rbWrite sample _ hindex => exact (hs.writeSample (sampleAddress_lt hs.wblk_lt hindex) sample).respond _ _
  | rbCommit hspace => exact (hs.advanceW hspace).respond _ _
  | rbAck => exact hs.clearFreed.respond _ _
  | tcSetPeriod hperiod => exact (hs.setPeriod hperiod).respond _ _
  | tcEnable hperiod => exact (hs.setEnable hperiod).respond _ _

theorem transact_inv {cmd data : Word} {s t : State} (hs : s.Inv) (h : transact cmd data s = .next t) : t.Inv := by
  obtain ⟨i, -, heq⟩ | ⟨e, -, heq⟩ := transact_cases cmd data s
  · exact (exec_effect (heq.symm.trans h)).inv hs
  · obtain rfl := Host.Outcome.next.inj (heq.symm.trans h)
    exact hs.respond _ _

theorem State.Inv.afterSample {s : State} (hs : s.Inv) (hocc : 1 ≤ s.occ) (v : Word) (n : Nat) :
    (s.afterSample v n).Inv :=
  ((hs.takeDraws n).setDac v).advanceRead hocc

theorem tickStep_inv {s t : State} (hs : s.Inv) (h : tickStep s = .next t) : t.Inv := by
  obtain ⟨-, heq⟩ | ⟨-, -, -, heq⟩ | ⟨-, hocc, -, heq⟩ := tickStep_cases s
  · obtain rfl := Host.Outcome.next.inj (heq.symm.trans h)
    exact hs
  · cases heq.symm.trans h
  · obtain rfl := Host.Outcome.next.inj (heq.symm.trans h)
    exact hs.afterSample hocc _ _

/-- Reset with parameters that meet the spec's constraints gives a legal state (R140). -/
theorem State.resetWith_inv {cfg : Config} (h : cfg.wellFormed = true) : (State.resetWith cfg).Inv := by
  obtain ⟨hn, -, hsize, -⟩ := Config.ring_bounds h
  have hcursor : 0 < 2 * cfg.numBlocks := by omega
  have hocc : (State.resetWith cfg).occ = 0 := cursorOcc_eq (w := 0) (r := 0) hcursor hcursor
  exact
    { config := h
      ring := ⟨hcursor, hcursor, hocc ▸ Nat.zero_le _, fun _ => rfl, hsize⟩
      store := ⟨rfl, by simp⟩
      timer := by simp [State.TimerOk]
      lfo := fun k hk => by simp [Lfo.Ok, Lfo.atReset]
      glideCount := by simp
      glide := fun g hg => by rw [List.eq_of_mem_replicate hg]; exact Glide.ok_of_idle rfl }

/-! ## The freed-block flag -/

/-- No command but RB_ACK writes the flag (R31). -/
theorem exec_rbFreed {i : Instr} {s t : State} (h : exec i s = .next t) (hi : i ≠ .rbAck) : t.rbFreed = s.rbFreed := by
  cases exec_effect h
  case rbAck => exact absurd rfl hi
  all_goals simp

theorem execRbAck_rbFreed {s t : State} (h : exec .rbAck s = .next t) : t.rbFreed = false := by
  obtain rfl := Host.Outcome.next.inj h
  simp

/-- A cursor's next value is another one, in a ring of any size: an even modulus keeps the parity of the successor. -/
theorem cursorNext_ne (n : Nat) (c : BitVec 8) : cursorNext n c ≠ c := by
  intro h
  have hnat : (c.toNat + 1) % (2 * n) % 256 = c.toNat := congrArg BitVec.toNat h
  have hparity : c.toNat % 2 = (c.toNat + 1) % 2 := by
    rw [← hnat, Nat.mod_mod_of_dvd _ (by decide), Nat.mod_mod_of_dvd _ (Dvd.intro n rfl), hnat]
  omega

/-- A tick that puts a sample out leaves the flag and the read cursor, or frees a block: it sets the one and moves the
other (R115). -/
theorem State.afterSample_freed_cases (s : State) (v : Word) (n : Nat) :
    ((s.afterSample v n).rbFreed = s.rbFreed ∧ (s.afterSample v n).rbR = s.rbR) ∨
    ((s.afterSample v n).rbFreed = true ∧ (s.afterSample v n).rbR = cursorNext s.cfg.numBlocks s.rbR) := by
  by_cases hend : s.rbPos.toNat + 1 = s.cfg.blockSize
  · right
    rw [State.afterSample, State.advanceRead_last (s := (s.takeDraws n).setDac v) hend]
    exact ⟨rfl, rfl⟩
  · left
    rw [State.afterSample, State.advanceRead_inside (s := (s.takeDraws n).setDac v) hend]
    exact ⟨rfl, rfl⟩

/-- A tick leaves the flag, or sets it as it moves the read cursor. -/
theorem tickStep_rbFreed {s t : State} (h : tickStep s = .next t) :
    t.rbFreed = s.rbFreed ∨ (t.rbFreed = true ∧ t.rbR ≠ s.rbR) := by
  obtain rfl | ⟨v, n, rfl⟩ := tickStep_next_cases h
  · exact .inl rfl
  · obtain ⟨hfreed, -⟩ | ⟨hfreed, hrbR⟩ := s.afterSample_freed_cases v n
    · exact .inl hfreed
    · exact .inr ⟨hfreed, hrbR ▸ cursorNext_ne _ _⟩

/-! ## The obligations -/

/-- Settles O3: a step is nothing, a transaction or a tick, and each keeps the invariant. -/
theorem stepKeepsInvariant : Obligations.StepKeepsInvariant := by
  intro s t hs h
  obtain ⟨-, heq⟩ | ⟨cmd, data, rest, -, heq⟩ | ⟨rest, -, heq⟩ := step_cases s
  · obtain rfl := Host.Outcome.next.inj (heq.symm.trans h)
    exact hs
  · exact transact_inv hs.dropStep (heq.symm.trans h)
  · exact tickStep_inv hs.dropStep (heq.symm.trans h)

/-- Settles O2: the configuration at reset is a well-formed one. -/
theorem resetMeetsInvariant : Obligations.ResetMeetsInvariant := State.resetWith_inv Config.chip_wellFormed

/-- Settles O48, from what a command and a tick do to the flag. -/
theorem onlyAckClearsFreed : Obligations.OnlyAckClearsFreed := by
  refine ⟨fun i s t h => ?_, fun s t h hset => ?_, fun s t h hchanged => ?_⟩
  · split
    · next hi => exact execRbAck_rbFreed (hi ▸ h)
    · next hi => exact exec_rbFreed h hi
  · obtain hkept | ⟨hfreed, -⟩ := tickStep_rbFreed h
    · exact hkept.trans hset
    · exact hfreed
  · obtain hkept | ⟨-, hmoved⟩ := tickStep_rbFreed h
    · exact absurd hkept hchanged
    · exact hmoved

end Sys2Proof.Machine
end

section
/-! SUPPORT. Which words of the sample store a step can change (R61, R62), and what a command repeated at once does
(R55). -/

namespace Sys2Proof.Machine

/-! ## The producer's block and the readable blocks (R61, R107) -/

theorem State.isReadableBlock_iff (s : State) (b : Nat) :
    s.isReadableBlock b = true ↔ ∃ j < s.occ, (s.rbR.toNat + j) % s.cfg.numBlocks = b := by
  simp [State.isReadableBlock]

/-- The producer's block is the one right after the readable blocks. -/
theorem State.RingOk.wblk_eq {s : State} (h : s.RingOk) : s.wblk = (s.rbR.toNat + s.occ) % s.cfg.numBlocks := by
  obtain ⟨hw, hr, -⟩ := h
  rw [State.wblk, State.occ, cursorOcc_eq hw hr]
  split
  · next hle => rw [Nat.add_sub_cancel' hle]
  · rw [Nat.add_sub_cancel' (by omega), Nat.add_mul_mod_self_right]

/-- While the ring is not full, the readable blocks are fewer than all blocks, so the one after them is none of them. -/
theorem State.RingOk.wblk_not_readable {s : State} (h : s.RingOk) (hocc : s.occ < s.cfg.numBlocks) :
    s.isReadableBlock s.wblk = false := by
  rw [Bool.eq_false_iff, Ne, State.isReadableBlock_iff]
  rintro ⟨j, hj, hblock⟩
  have hmod : j ≡ s.occ [MOD s.cfg.numBlocks] := Nat.ModEq.add_left_cancel' _ (hblock.trans h.wblk_eq)
  exact hj.ne (hmod.eq_of_lt_of_lt (hj.trans hocc) hocc)

/-- The consumer's block is the first readable one. -/
theorem State.rblk_readable {s : State} (hocc : 1 ≤ s.occ) : s.isReadableBlock s.rblk = true :=
  (s.isReadableBlock_iff _).mpr ⟨0, hocc, rfl⟩

/-! ## The sample store over a step (R33, R62) -/

/-- A command leaves the store, or writes one word of the producer's block in a ring that is not full. -/
theorem exec_store_cases {i : Instr} {s t : State} (h : exec i s = .next t) :
    t.store = s.store ∨
    ∃ (index : Nat) (sample : Word), s.writable ≠ 0 ∧ index < s.cfg.blockSize ∧
      t.store = s.store.write (sampleAddress s.cfg s.wblk index) sample := by
  cases exec_effect h
  case rbWrite index sample hspace hindex => exact .inr ⟨index.toNat, sample, hspace, hindex, rfl⟩
  all_goals exact .inl rfl

theorem tickStep_store {s t : State} (h : tickStep s = .next t) : t.store = s.store := by
  obtain rfl | ⟨v, n, rfl⟩ := tickStep_next_cases h <;> rfl

/-- No command changes a word of a readable block: the one word it can write is in another block. -/
theorem exec_readable_word {i : Instr} {s t : State} {b k : Nat} (hring : s.RingOk) (h : exec i s = .next t)
    (hb : s.isReadableBlock b = true) (hk : k < s.cfg.blockSize) :
    t.store.read? (sampleAddress s.cfg b k) = s.store.read? (sampleAddress s.cfg b k) := by
  obtain hstore | ⟨index, sample, hspace, hindex, hstore⟩ := exec_store_cases h
  · rw [hstore]
  · have hblock : b ≠ s.wblk := by
      rintro rfl
      exact Bool.false_ne_true ((hring.wblk_not_readable (Nat.lt_of_sub_ne_zero hspace)).symm.trans hb)
    rw [hstore, Memory.read?_write_other _ _ (sampleAddress_ne hk hindex hblock)]

theorem transact_readable_word {cmd data : Word} {s t : State} {b k : Nat} (hring : s.RingOk)
    (h : transact cmd data s = .next t) (hb : s.isReadableBlock b = true) (hk : k < s.cfg.blockSize) :
    t.store.read? (sampleAddress s.cfg b k) = s.store.read? (sampleAddress s.cfg b k) := by
  obtain ⟨i, -, heq⟩ | ⟨e, -, heq⟩ := transact_cases cmd data s
  · exact exec_readable_word hring (heq.symm.trans h) hb hk
  · obtain rfl := Host.Outcome.next.inj (heq.symm.trans h)
    rfl

/-! ## A command repeated at once (R55) -/

/-- No command reads the last response, and every command overwrites it (R67). -/
theorem exec_respond (i : Instr) (s : State) (status : Status) (rdata : Word) :
    exec i (s.respond status rdata) = exec i s := by
  cases i <;> rfl

/-- GLIDE_INIT on a channel that exists (R92). -/
theorem exec_glideInit_present {s : State} {ch : ChannelNo} {g : Glide} (rate : Rate) (target : Word)
    (hch : ch.toNat < s.cfg.numGlide) (hg : s.glide[ch.toNat]? = some g) :
    exec (.glideInit ch rate target) s =
      .next ((s.setGlide ch (g.init rate target (glideCoefAt s.cfg rate))).respond .ok
        (g.init rate target (glideCoefAt s.cfg rate)).current) :=
  congrArg Host.Outcome.next (State.withGlide_present hch hg)

/-- LFO_INIT on a channel that exists, from a phase below 1.0 (R103). -/
theorem exec_lfoInit_present {s : State} {ch : ChannelNo} {l : Lfo} {startPhase : Word} (rate : Rate)
    (hl : s.lfo[ch.toNat]? = some l) (hphase : startPhase.toNat < 2 ^ 31) :
    exec (.lfoInit ch rate startPhase) s =
      .next ((s.setLfo ch (l.init (lfoIncAt s.cfg rate) startPhase)).respond .ok 0) :=
  congrArg Host.Outcome.next ((State.withLfo_present hl).trans (if_neg (Nat.not_le_of_lt hphase)))

/-- RB_WRITE of a sample of the block, in a ring that is not full (R109). -/
theorem exec_rbWrite_inside {s : State} {index : BitVec 16} (sample : Word) (hspace : s.writable ≠ 0)
    (hindex : index.toNat < s.cfg.blockSize) :
    exec (.rbWrite index sample) s =
      .next ((s.writeSample (sampleAddress s.cfg s.wblk index.toNat) sample).respond .ok 0) :=
  congrArg Host.Outcome.next ((if_neg hspace).trans (if_neg (Nat.not_le_of_lt hindex)))

theorem exec_tcSetPeriod_ne_zero (s : State) {period : Word} (hperiod : period ≠ 0) :
    exec (.tcSetPeriod period) s = .next ((s.setPeriod period).respond .ok 0) :=
  congrArg Host.Outcome.next (if_neg hperiod)

/-- TC_ENABLE, but for an enable with no period configured (R121). -/
theorem exec_tcEnable_allowed {s : State} {en : Bool} (hperiod : ¬ (en = true ∧ s.tcPeriod = 0)) :
    exec (.tcEnable en) s = .next ((s.setEnable en).respond .ok 0) :=
  congrArg Host.Outcome.next (if_neg hperiod)

/-- A GLIDE_INIT repeated: a snapped channel is at its target, so it snaps again; an armed one has not moved, so it is
armed with the same increment (R92). -/
theorem Glide.init_init (g : Glide) (rate : Rate) (target : Word) (coef : Nat) :
    (g.init rate target coef).init rate target coef = g.init rate target coef := by
  by_cases hsnap : rate = 0 ∨ target = g.current
  · have hinit : g.init rate target coef = Glide.snapTo target := if_pos hsnap
    rw [hinit]
    exact if_pos (.inr rfl)
  · have hinit : g.init rate target coef = g.armed target coef := if_neg hsnap
    rw [hinit]
    exact if_neg hsnap

theorem State.setGlide_getElem? {s : State} {ch : ChannelNo} {g : Glide} (hg : s.glide[ch.toNat]? = some g)
    (g' : Glide) : (s.setGlide ch g').glide[ch.toNat]? = some g' := by
  obtain ⟨hlt, -⟩ := List.getElem?_eq_some_iff.mp hg
  exact List.getElem?_set_self hlt

theorem State.setLfo_getElem? {s : State} {ch : ChannelNo} {l : Lfo} (hl : s.lfo[ch.toNat]? = some l)
    (l' : Lfo) : (s.setLfo ch l').lfo[ch.toNat]? = some l' := by
  obtain ⟨hlt, -⟩ := Vector.getElem?_eq_some_iff.mp hl
  exact Vector.getElem?_setIfInBounds_self_of_lt hlt

@[simp] theorem State.setGlide_setGlide (s : State) (ch : ChannelNo) (g g' : Glide) :
    (s.setGlide ch g).setGlide ch g' = s.setGlide ch g' := by
  simp [State.setGlide]

@[simp] theorem State.setLfo_setLfo (s : State) (ch : ChannelNo) (l l' : Lfo) :
    (s.setLfo ch l).setLfo ch l' = s.setLfo ch l' := by
  simp [State.setLfo]

@[simp] theorem State.writeSample_writeSample_same (s : State) (a : Nat) (v : Word) :
    (s.writeSample a v).writeSample a v = s.writeSample a v := by
  simp [State.writeSample, Memory.write_write_same]

/-! ## The obligations -/

/-- Settles O45, from the place of the two blocks beside the readable ones. -/
theorem producerBlockIsNotReadable : Obligations.ProducerBlockIsNotReadable :=
  fun _ hs => ⟨hs.ring.wblk_not_readable, State.rblk_readable⟩

/-- Settles O46: a transaction writes beside the readable blocks only, and a tick does not write the store. -/
theorem readableWordsAreStable : Obligations.ReadableWordsAreStable := by
  intro s t b k hs h hb hk
  obtain ⟨-, heq⟩ | ⟨cmd, data, rest, -, heq⟩ | ⟨rest, -, heq⟩ := step_cases s
  · obtain rfl := Host.Outcome.next.inj (heq.symm.trans h)
    rfl
  · exact transact_readable_word (s := s.dropStep) hs.dropStep.ring (heq.symm.trans h) hb hk
  · rw [tickStep_store (heq.symm.trans h), s.dropStep_store]

/-- Settles O17: a command that wrote nothing meets the state it met before, and one that wrote writes the same values
again. -/
theorem repeatedCommandsChangeNothing : Obligations.RepeatedCommandsChangeNothing := by
  intro i s t hi h
  cases exec_effect h with
  | answers | refuses => rw [exec_respond, h]
  | glideUpdate | lfoUpdate | rbCommit | rbAck => exact absurd hi (by simp [repeatDiffers])
  | @glideInit ch g rate target hch hg =>
    have hg' := State.setGlide_getElem? hg (g.init rate target (glideCoefAt s.cfg rate))
    rw [exec_respond, exec_glideInit_present (s := s.setGlide ch _) rate target hch hg']
    simp [Glide.init_init]
  | @lfoInit ch l startPhase rate hl hphase =>
    have hl' := State.setLfo_getElem? hl (l.init (lfoIncAt s.cfg rate) startPhase)
    rw [exec_respond, exec_lfoInit_present rate hl' hphase]
    simp [Lfo.init]
  | rbWrite sample hspace hindex =>
    rw [exec_respond, exec_rbWrite_inside (s := s.writeSample _ sample) sample hspace hindex]
    simp
  | tcSetPeriod hperiod =>
    rw [exec_respond, exec_tcSetPeriod_ne_zero _ hperiod]
    rfl
  | @tcEnable en hperiod =>
    rw [exec_respond, exec_tcEnable_allowed (s := s.setEnable en) hperiod]
    rfl

end Sys2Proof.Machine
end

section
/-! SUPPORT. The encoding (R68 to R75): what the must-be-zero bits say of a word, what decodes, and that decoding and
encoding are inverse. -/

namespace Sys2Proof

/-! ## Parts of a word -/

theorem append_eq_append_iff {m n : Nat} {a c : BitVec m} {b d : BitVec n} : a ++ b = c ++ d ↔ a = c ∧ b = d := by
  refine ⟨fun h => ?_, fun ⟨ha, hb⟩ => by rw [ha, hb]⟩
  have hb : b = d := by rw [← BitVec.extractLsb'_append_eq_right (a := a) (b := b), h, BitVec.extractLsb'_append_eq_right]
  subst hb
  exact ⟨(BitVec.append_left_inj b).mp h, rfl⟩

/-- One bit of a word, as a field. -/
theorem extractLsb'_one {w : Nat} (x : BitVec w) (i : Nat) : x.extractLsb' i 1 = BitVec.ofBool (x.getLsbD i) := by
  ext k hk
  obtain rfl : k = 0 := by omega
  simp

/-- IMM = CMD[19:0] (R69). -/
def immField (cmd : Word) : BitVec 20 := cmd.extractLsb' 0 20

@[simp] theorem immField_cmdWord (op : Opcode) (ch : ChannelNo) (imm : BitVec 20) :
    immField (cmdWord op ch imm) = imm := by
  simp [immField, extractLsb'_cmdWord]

/-- A CMD word is its three fields (R69). -/
theorem cmdWord_of_fields {cmd : Word} {op : Opcode} {ch : ChannelNo} {imm : BitVec 20}
    (hop : opcField cmd = op.code) (hch : chField cmd = ch) (himm : immField cmd = imm) : cmdWord op ch imm = cmd := by
  rw [cmdWord, ← hop, ← hch, ← himm]
  simp only [opcField, chField, immField, BitVec.extractLsb'_append_extractLsb'_eq_extractLsb']
  exact BitVec.extractLsb'_eq_self

/-! ## The operands in IMM (R71) -/

@[simp] theorem rateField_immRate (op : Opcode) (ch : ChannelNo) (rate : Rate) :
    rateField (cmdWord op ch (immRate rate)) = rate := by
  rw [rateField, extractLsb'_cmdWord _ _ _ (by decide), immRate]
  exact BitVec.extractLsb'_append_eq_right

@[simp] theorem indexField_immIndex (op : Opcode) (ch : ChannelNo) (index : BitVec 16) :
    indexField (cmdWord op ch (immIndex index)) = index := by
  rw [indexField, extractLsb'_cmdWord _ _ _ (by decide), immIndex]
  exact BitVec.extractLsb'_append_eq_right

@[simp] theorem enField_immEnable (op : Opcode) (ch : ChannelNo) (en : Bool) :
    enField (cmdWord op ch (immEnable en)) = en := by
  rw [enField, getLsbD_cmdWord, if_pos (by decide)]
  cases en <;> rfl

@[simp] theorem rateField_immShape (op : Opcode) (ch : ChannelNo) (rate : Rate) (shape : Shape) (abs : Bool) :
    rateField (cmdWord op ch (immShape rate shape abs)) = rate := by
  rw [rateField, extractLsb'_cmdWord _ _ _ (by decide), immShape]
  exact BitVec.extractLsb'_append_eq_right

@[simp] theorem shapeField_immShape (op : Opcode) (ch : ChannelNo) (rate : Rate) (shape : Shape) (abs : Bool) :
    shapeField (cmdWord op ch (immShape rate shape abs)) = shape.code := by
  rw [shapeField, extractLsb'_cmdWord _ _ _ (by decide), immShape, BitVec.extractLsb'_append_eq_of_le (by decide),
    BitVec.extractLsb'_append_eq_of_le (by decide)]
  exact BitVec.extractLsb'_append_eq_right

@[simp] theorem absField_immShape (op : Opcode) (ch : ChannelNo) (rate : Rate) (shape : Shape) (abs : Bool) :
    absField (cmdWord op ch (immShape rate shape abs)) = abs := by
  rw [absField, getLsbD_cmdWord, if_pos (by decide), immShape]
  simp only [BitVec.getLsbD_append]
  simp

/-! ## The must-be-zero bits: what the rest of the word then is (R71) -/

/-- The bits below OPC are CH and IMM (R69). -/
theorem fields_below_opc (cmd : Word) : cmd.extractLsb' 0 24 = chField cmd ++ immField cmd := by
  simp only [chField, immField, BitVec.extractLsb'_append_extractLsb'_eq_extractLsb']

theorem zerosOk_f0_iff (cmd : Word) : Format.f0.zerosOk cmd = true ↔ chField cmd = 0 ∧ immField cmd = 0 := by
  rw [← append_eq_append_iff, ← fields_below_opc]
  exact beq_iff_eq

theorem zerosOk_fc_iff (cmd : Word) : Format.fc.zerosOk cmd = true ↔ immField cmd = 0 := beq_iff_eq

theorem zerosOk_fcr_iff (cmd : Word) : Format.fcr.zerosOk cmd = true ↔ immField cmd = immRate (rateField cmd) := by
  have himm : immField cmd = cmd.extractLsb' 7 13 ++ rateField cmd := by
    simp only [immField, rateField, BitVec.extractLsb'_append_extractLsb'_eq_extractLsb']
  rw [himm, immRate, BitVec.append_left_inj]
  exact beq_iff_eq

theorem zerosOk_flu_iff {cmd : Word} {shape : Shape} (hshape : shapeField cmd = shape.code) :
    Format.flu.zerosOk cmd = true ↔ immField cmd = immShape (rateField cmd) shape (absField cmd) := by
  have himm : immField cmd = cmd.extractLsb' 12 8 ++ cmd.extractLsb' 11 1 ++ shapeField cmd ++ cmd.extractLsb' 7 1 ++
      rateField cmd := by
    simp only [shapeField, rateField, immField, BitVec.extractLsb'_append_extractLsb'_eq_extractLsb']
  rw [himm, immShape, hshape, extractLsb'_one, extractLsb'_one, absField, BitVec.append_left_inj, append_eq_append_iff,
    BitVec.append_left_inj, BitVec.append_left_inj, Format.zerosOk, Bool.and_eq_true, beq_iff_eq]
  cases cmd.getLsbD 7 <;> simp

theorem zerosOk_fix_iff (cmd : Word) :
    Format.fix.zerosOk cmd = true ↔ chField cmd = 0 ∧ immField cmd = immIndex (indexField cmd) := by
  have himm : immField cmd = cmd.extractLsb' 16 4 ++ indexField cmd := by
    simp only [immField, indexField, BitVec.extractLsb'_append_extractLsb'_eq_extractLsb']
  rw [himm, immIndex, BitVec.append_left_inj, ← append_eq_append_iff]
  simp only [chField, BitVec.extractLsb'_append_extractLsb'_eq_extractLsb']
  exact beq_iff_eq

theorem zerosOk_fe_iff (cmd : Word) :
    Format.fe.zerosOk cmd = true ↔ chField cmd = 0 ∧ immField cmd = immEnable (enField cmd) := by
  have himm : immField cmd = cmd.extractLsb' 1 19 ++ BitVec.ofBool (enField cmd) := by
    rw [enField, ← extractLsb'_one]
    simp only [immField, BitVec.extractLsb'_append_extractLsb'_eq_extractLsb']
  rw [himm, immEnable, BitVec.append_left_inj, ← append_eq_append_iff]
  simp only [chField, BitVec.extractLsb'_append_extractLsb'_eq_extractLsb']
  exact beq_iff_eq

/-! ## What decodes -/

theorem Opcode.ofCode?_eq_some_iff {opc : BitVec 8} {op : Opcode} : Opcode.ofCode? opc = some op ↔ opc = op.code := by
  refine ⟨fun h => ?_, fun h => h ▸ Opcode.ofCode?_code op⟩
  have hfound := List.find?_some h
  exact (beq_iff_eq.mp hfound).symm

theorem Shape.ofCode?_eq_some_iff {code : BitVec 3} {shape : Shape} :
    Shape.ofCode? code = some shape ↔ code = shape.code := by
  refine ⟨fun h => ?_, fun h => h ▸ Shape.ofCode?_code shape⟩
  have hfound := List.find?_some h
  exact (beq_iff_eq.mp hfound).symm

/-- R74's checks before the opcode's own operands. -/
theorem decode_of_opcode {cmd : Word} {op : Opcode} (data : Word) (hop : opcField cmd = op.code)
    (hzeros : op.format.zerosOk cmd = true) : decode cmd data = op.command cmd data := by
  simp [decode, hop, hzeros]

theorem decode_eq_ok_iff {cmd data : Word} {i : Instr} :
    decode cmd data = .ok i ↔
      ∃ op : Opcode, opcField cmd = op.code ∧ op.format.zerosOk cmd = true ∧ op.command cmd data = .ok i := by
  refine ⟨fun h => ?_, fun ⟨op, hop, hzeros, hcommand⟩ => (decode_of_opcode data hop hzeros).trans hcommand⟩
  unfold decode at h
  split at h
  · cases h
  · next op hop =>
    split at h
    · next hzeros => exact ⟨op, Opcode.ofCode?_eq_some_iff.mp hop, hzeros, h⟩
    · cases h

/-- LFO_UPDATE is the one opcode whose operands are checked: its shape is one of R98's. -/
theorem command_lfoUpdate_eq_ok_iff {cmd data : Word} {i : Instr} :
    Opcode.lfoUpdate.command cmd data = .ok i ↔
      ∃ shape, shapeField cmd = shape.code ∧ .lfoUpdate (chField cmd) (rateField cmd) shape (absField cmd) = i := by
  simp only [Opcode.command, ← Shape.ofCode?_eq_some_iff]
  cases Shape.ofCode? (shapeField cmd) <;> simp

/-- An operand that does not come from DATA does not depend on it (R68). -/
theorem command_of_not_usesData {op : Opcode} {cmd data : Word} {i : Instr} (data' : Word)
    (h : op.command cmd data = .ok i) (hi : i.usesData = false) : op.command cmd data' = .ok i := by
  cases op
  case glideInit | lfoInit | rbWrite | tcSetPeriod =>
    obtain rfl := Except.ok.inj h
    cases hi
  all_goals exact h

/-! ## Decoding and encoding are inverse -/

/-- The encoder leaves the must-be-zero bits 0, so the opcode's command is what a word of it decodes to. -/
theorem decode_cmdWord (op : Opcode) (ch : ChannelNo) (imm : BitVec 20) (data : Word)
    (hzeros : op.format.zerosOk (cmdWord op ch imm) = true) :
    decode (cmdWord op ch imm) data = op.command (cmdWord op ch imm) data :=
  decode_of_opcode data (opcField_cmdWord op ch imm) hzeros

/-- Settles O10, format by format: the must-be-zero bits of an encoded command are 0 and its fields are its operands. -/
theorem decodeOfEncode : Obligations.DecodeOfEncode := by
  intro i
  cases i
  case nop | rbStatus | rbCommit | rbAck | rbCursors | tcReadPeriod | dacRead | tcSetPeriod =>
    exact decode_cmdWord _ _ _ _ ((zerosOk_f0_iff _).mpr (by simp))
  case glideUpdate ch | glideRead ch | glideStatus ch | lfoPhase ch | lfoOut ch =>
    rw [encode, decode_cmdWord _ _ _ _ ((zerosOk_fc_iff _).mpr (by simp))]
    simp [Opcode.command]
  case glideInit ch rate data | lfoInit ch rate data =>
    rw [encode, decode_cmdWord _ _ _ _ ((zerosOk_fcr_iff _).mpr (by simp))]
    simp [Opcode.command]
  case lfoUpdate ch rate shape abs =>
    rw [encode, decode_cmdWord _ _ _ _ ((zerosOk_flu_iff (shapeField_immShape _ _ rate shape abs)).mpr (by simp)),
      command_lfoUpdate_eq_ok_iff]
    exact ⟨shape, by simp⟩
  case rbWrite index sample =>
    rw [encode, decode_cmdWord _ _ _ _ ((zerosOk_fix_iff _).mpr (by simp))]
    simp [Opcode.command]
  case tcEnable en =>
    rw [encode, decode_cmdWord _ _ _ _ ((zerosOk_fe_iff _).mpr (by simp))]
    simp [Opcode.command]

/-- Settles O11, format by format: where the must-be-zero bits are 0, the operands are all that the word holds. -/
theorem encodeOfDecode : Obligations.EncodeOfDecode := by
  intro cmd data i h
  obtain ⟨op, hop, hzeros, hcommand⟩ := decode_eq_ok_iff.mp h
  cases op
  case lfoUpdate =>
    obtain ⟨shape, hshape, rfl⟩ := command_lfoUpdate_eq_ok_iff.mp hcommand
    exact Prod.ext (cmdWord_of_fields hop rfl ((zerosOk_flu_iff hshape).mp hzeros)) rfl
  all_goals obtain rfl := Except.ok.inj hcommand
  case nop | rbStatus | rbCommit | rbAck | rbCursors | tcReadPeriod | dacRead | tcSetPeriod =>
    obtain ⟨hch, himm⟩ := (zerosOk_f0_iff cmd).mp hzeros
    exact Prod.ext (cmdWord_of_fields hop hch himm) rfl
  case glideUpdate | glideRead | glideStatus | lfoPhase | lfoOut =>
    exact Prod.ext (cmdWord_of_fields hop rfl ((zerosOk_fc_iff cmd).mp hzeros)) rfl
  case glideInit | lfoInit =>
    exact Prod.ext (cmdWord_of_fields hop rfl ((zerosOk_fcr_iff cmd).mp hzeros)) rfl
  case rbWrite =>
    obtain ⟨hch, himm⟩ := (zerosOk_fix_iff cmd).mp hzeros
    exact Prod.ext (cmdWord_of_fields hop hch himm) rfl
  case tcEnable =>
    obtain ⟨hch, himm⟩ := (zerosOk_fe_iff cmd).mp hzeros
    exact Prod.ext (cmdWord_of_fields hop hch himm) rfl

end Sys2Proof
end

section
/-! SUPPORT. The words that decode are the legal words of the opcode table (R71, R73, R75). -/

namespace Sys2Proof

/-! ## Masks and the opcode table -/

/-- The bits of a word under a field's mask are the bits of the field under the mask. -/
theorem and_shiftLeft_eq_iff {lo len : Nat} (h : lo + len ≤ 32) (w : Word) (m v : BitVec len) :
    w &&& (m.setWidth 32 <<< lo) = v.setWidth 32 <<< lo ↔ w.extractLsb' lo len &&& m = v := by
  have hfield (y : BitVec len) : (y.setWidth 32 <<< lo).extractLsb' lo len = y := by
    ext k hk
    have hlt : lo + k < 32 := by omega
    simp [hlt, hk]
  have hmask : w &&& (m.setWidth 32 <<< lo) = (w.extractLsb' lo len &&& m).setWidth 32 <<< lo := by
    ext k hk
    by_cases hlo : k < lo
    · simp [hlo]
    · have hsum : lo + (k - lo) = k := by omega
      by_cases hlen : k - lo < len
      · simp [hlo, hsum, hlen, BitVec.getLsbD_eq_getElem hk]
      · simp [hlo, hlen, BitVec.getLsbD_of_ge m _ (Nat.le_of_not_lt hlen)]
  rw [hmask]
  exact ⟨fun heq => by rw [← hfield (_ &&& m), heq, hfield], fun heq => by rw [heq]⟩

theorem reservedShape_eq_true_iff (cmd : Word) :
    reservedShape cmd = true ↔ opcField cmd = Opcode.lfoUpdate.code ∧ Shape.ofCode? (shapeField cmd) = none := by
  have hcode : ∀ code : BitVec 3, code &&& 6 = 6 ↔ Shape.ofCode? code = none := by decide
  have hop : cmd &&& 0xFF000000 = 0x21000000 ↔ opcField cmd &&& 0xFF = Opcode.lfoUpdate.code :=
    and_shiftLeft_eq_iff (lo := 24) (by decide) cmd 0xFF#8 0x21
  have hshape : cmd &&& 0x00000600 = 0x00000600 ↔ shapeField cmd &&& 6 = 6 := 
    and_shiftLeft_eq_iff (lo := 8) (by decide) cmd 6#3 6
  rw [reservedShape, Bool.and_eq_true, beq_iff_eq, beq_iff_eq, hop, hshape, hcode]
  exact and_congr_left' (by rw [show (0xFF : BitVec 8) = BitVec.allOnes 8 from rfl, BitVec.and_allOnes])

/-- A word of a row holds the row's bits, and any bits where the mask is 0. -/
theorem TableRow.eq_of_covers {row : TableRow} {cmd : Word} (h : row.covers cmd = true) :
    cmd = row.value ||| (cmd &&& ~~~row.mask) := by
  rw [← beq_iff_eq.mp h, ← BitVec.and_or_distrib_left, BitVec.or_not_self, BitVec.and_allOnes]

theorem Format.zerosOk_or (f : Format) (a b : Word) : f.zerosOk (a ||| b) = (f.zerosOk a && f.zerosOk b) := by
  rw [Bool.eq_iff_iff]
  cases f <;> simp [Format.zerosOk, BitVec.extractLsb'_or, BitVec.or_eq_zero_iff, and_and_and_comm]

theorem Format.zerosOk_and {f : Format} (a : Word) {b : Word} (h : f.zerosOk b = true) : f.zerosOk (a &&& b) = true := by
  cases f <;> simp_all [Format.zerosOk, BitVec.extractLsb'_and]

/-- Each row of the opcode table is an opcode's: outside its mask are operand bits of the opcode's format only. -/
theorem opcodeTable_rows : ∀ row ∈ opcodeTable, ∃ op ∈ Opcode.all,
    opcField row.value = op.code ∧ op.format.zerosOk row.value = true ∧
    opcField (~~~row.mask) = 0 ∧ op.format.zerosOk (~~~row.mask) = true := by
  decide

/-- A word of a row has the opcode of the row and passes the checks of its format. -/
theorem opcode_of_covers {row : TableRow} {cmd : Word} (hrow : row ∈ opcodeTable) (h : row.covers cmd = true) :
    ∃ op : Opcode, opcField cmd = op.code ∧ op.format.zerosOk cmd = true := by
  obtain ⟨op, -, hcode, hzeros, hmaskOpc, hmask⟩ := opcodeTable_rows row hrow
  rw [TableRow.eq_of_covers h]
  refine ⟨op, ?_, ?_⟩
  · rw [opcField, BitVec.extractLsb'_or, BitVec.extractLsb'_and, ← opcField, ← opcField, ← opcField, hcode, hmaskOpc]
    simp
  · rw [Format.zerosOk_or, hzeros, Format.zerosOk_and cmd hmask, Bool.and_self]

/-- The CMD word of every command is in a row of the opcode table. -/
theorem encode_covered (i : Instr) : ∃ row ∈ opcodeTable, row.covers (encode i).1 = true := by
  have hrow : Laws.RowOfWord.Statement i := by
    cases i
    case nop => exact Laws.RowOfWord.nop
    case glideInit ch rate target => exact Laws.RowOfWord.glideInit ch rate target
    case glideUpdate ch => exact Laws.RowOfWord.glideUpdate ch
    case glideRead ch => exact Laws.RowOfWord.glideRead ch
    case glideStatus ch => exact Laws.RowOfWord.glideStatus ch
    case lfoInit ch rate startPhase => exact Laws.RowOfWord.lfoInit ch rate startPhase
    case lfoUpdate ch rate shape abs => exact Laws.RowOfWord.lfoUpdate ch rate shape abs
    case lfoPhase ch => exact Laws.RowOfWord.lfoPhase ch
    case lfoOut ch => exact Laws.RowOfWord.lfoOut ch
    case rbStatus => exact Laws.RowOfWord.rbStatus
    case rbWrite index sample => exact Laws.RowOfWord.rbWrite index sample
    case rbCommit => exact Laws.RowOfWord.rbCommit
    case rbAck => exact Laws.RowOfWord.rbAck
    case rbCursors => exact Laws.RowOfWord.rbCursors
    case tcSetPeriod period => exact Laws.RowOfWord.tcSetPeriod period
    case tcEnable en => exact Laws.RowOfWord.tcEnable en
    case tcReadPeriod => exact Laws.RowOfWord.tcReadPeriod
    case dacRead => exact Laws.RowOfWord.dacRead
  obtain ⟨row, hmem, -, hcovers⟩ := hrow
  exact ⟨row, hmem, hcovers⟩

theorem legalCommand_eq_true_iff (cmd : Word) :
    legalCommand cmd = true ↔ (∃ row ∈ opcodeTable, row.covers cmd = true) ∧ ¬ reservedShape cmd = true := by
  simp [legalCommand]

/-! ## Which words decode -/

theorem Opcode.code_inj {op op' : Opcode} (h : op.code = op'.code) : op = op' :=
  Option.some.inj ((Opcode.ofCode?_code op).symm.trans (Opcode.ofCode?_eq_some_iff.mpr h))

/-- An opcode gives a command, but for LFO_UPDATE with a shape that is none of R98's. -/
theorem exists_command_iff (op : Opcode) (cmd data : Word) :
    (∃ i, op.command cmd data = .ok i) ↔ ¬ (op = .lfoUpdate ∧ Shape.ofCode? (shapeField cmd) = none) := by
  cases op
  case lfoUpdate => cases h : Shape.ofCode? (shapeField cmd) <;> simp [Opcode.command, h]
  all_goals simp [Opcode.command]

/-- A word that decodes holds no reserved shape. -/
theorem not_reservedShape_of_decode {cmd data : Word} {i : Instr} (h : decode cmd data = .ok i) :
    ¬ reservedShape cmd = true := by
  obtain ⟨op, hop, -, hcommand⟩ := decode_eq_ok_iff.mp h
  rw [reservedShape_eq_true_iff]
  rintro ⟨hlfo, hshape⟩
  exact (exists_command_iff op cmd data).mp ⟨i, hcommand⟩ ⟨Opcode.code_inj (hop.symm.trans hlfo), hshape⟩

/-- Settles O9: what decodes is the encoding of a command, so a row covers it; and a row's mask leaves free only what
the decoder reads as operands. -/
theorem decodeAcceptsExactlyTheTable : Obligations.DecodeAcceptsExactlyTheTable := by
  intro cmd data
  rw [legalCommand_eq_true_iff]
  constructor
  · rintro ⟨i, h⟩
    have hcmd : (encode i).1 = cmd := congrArg Prod.fst (encodeOfDecode cmd data i h)
    exact ⟨hcmd ▸ encode_covered i, not_reservedShape_of_decode h⟩
  · rintro ⟨⟨row, hrow, hcovers⟩, hreserved⟩
    obtain ⟨op, hop, hzeros⟩ := opcode_of_covers hrow hcovers
    rw [decode_of_opcode data hop hzeros, exists_command_iff]
    rintro ⟨rfl, hshape⟩
    exact hreserved ((reservedShape_eq_true_iff cmd).mpr ⟨hop, hshape⟩)

/-- Settles O13: the decoder evaluated on the spec's words. -/
theorem specWordsDecode : Obligations.SpecWordsDecode := by
  unfold Obligations.SpecWordsDecode
  decide

end Sys2Proof
end

section
/-! SUPPORT. A step of the schedule: that it always answers within the invariant, and what the port answers (R67, R68,
R70, R74, R75, R127). -/

namespace Sys2Proof.Machine

/-! ## The steps of a schedule -/

theorem State.dropStep_eq {s : State} {a : AgentStep} {rest : List AgentStep} (h : s.schedule = a :: rest) :
    s.dropStep = { s with schedule := rest } := by
  rw [State.dropStep, h, List.tail_cons]

theorem step_nil {s : State} (h : s.schedule = []) : step s = .next s := by
  simp [step, runNext, h]

theorem step_host {s : State} {cmd data : Word} {rest : List AgentStep} (h : s.schedule = .host cmd data :: rest) :
    step s = transact cmd data { s with schedule := rest } := by
  rw [← State.dropStep_eq h]
  simp [step, runNext, h]

theorem step_tick {s : State} {rest : List AgentStep} (h : s.schedule = .tick :: rest) :
    step s = tickStep { s with schedule := rest } := by
  rw [← State.dropStep_eq h]
  simp [step, runNext, h]

theorem transact_of_decode {cmd data : Word} {i : Instr} (h : decode cmd data = .ok i) (s : State) :
    transact cmd data s = exec i s := by
  simp [transact, h]

/-- A word outside the opcode table is answered with ILLEGAL. -/
theorem transact_of_not_legal {cmd : Word} (data : Word) (h : legalCommand cmd = false) (s : State) :
    transact cmd data s = .next s.respondIllegal := by
  obtain ⟨i, hdecode, -⟩ | ⟨e, -, heq⟩ := transact_cases cmd data s
  · have hlegal := (decodeAcceptsExactlyTheTable cmd data).mp ⟨i, hdecode⟩
    exact absurd (h.symm.trans hlegal) Bool.false_ne_true
  · exact heq

theorem tickStep_of_disabled {s : State} (h : ¬ s.tcEn = true) : tickStep s = .next s := by
  simp [tickStep, h]

/-- Within the invariant a TICK step reads an address of the store (R49, R51). -/
theorem State.Inv.readAddress_lt {s : State} (hs : s.Inv) :
    sampleAddress s.cfg s.rblk s.rbPos.toNat < storeSize s.cfg := by
  obtain ⟨hblocks, -⟩ := Config.ring_bounds hs.config
  obtain ⟨-, -, -, -, hpos⟩ := hs.ring
  exact sampleAddress_lt (Nat.mod_lt _ (Nat.zero_lt_two.trans_le hblocks)) hpos

theorem tickStep_next {s : State} (hs : s.Inv) : ∃ t, tickStep s = .next t := by
  obtain ⟨-, heq⟩ | ⟨-, -, hread, -⟩ | ⟨-, -, -, heq⟩ := tickStep_cases s
  · exact ⟨_, heq⟩
  · exact absurd hs.readAddress_lt hread
  · exact ⟨_, heq⟩

theorem transact_next (cmd data : Word) (s : State) : ∃ t, transact cmd data s = .next t := by
  obtain ⟨i, -, heq⟩ | ⟨e, -, heq⟩ := transact_cases cmd data s
  · exact heq ▸ exec_next i s
  · exact ⟨_, heq⟩

/-- A command that is not refused is answered with OK (R70). -/
theorem CommandEffect.response_cases {s t : State} {i : Instr} (h : CommandEffect s i t) :
    t = s.respond .refused 0 ∨ ∃ rdata, t.response = some ⟨.ok, rdata⟩ := by
  cases h
  case refuses => exact .inl rfl
  all_goals exact .inr ⟨_, rfl⟩

/-! ## The obligations -/

/-- Settles O4: every command completes, and within the invariant the address a TICK reads is one of the store's. -/
theorem noStepStopsWithinInvariant : Obligations.NoStepStopsWithinInvariant := by
  intro s hs
  obtain ⟨-, heq⟩ | ⟨cmd, data, rest, -, heq⟩ | ⟨rest, -, heq⟩ := step_cases s
  · exact ⟨s, heq⟩
  · exact heq ▸ transact_next cmd data s.dropStep
  · exact heq ▸ tickStep_next hs.dropStep

/-- Settles O8: a word outside the table does not decode. -/
theorem illegalWordsAnswerIllegal : Obligations.IllegalWordsAnswerIllegal := by
  refine ⟨fun s cmd data rest hschedule hlegal => ?_, by decide +kernel, fun status => ?_⟩
  · rw [step_host hschedule, transact_of_not_legal data hlegal]
    rfl
  · cases status <;> decide

/-- Settles O14, from what each command can leave the state in. -/
theorem refusedCommandChangesNothing : Obligations.RefusedCommandChangesNothing := by
  intro i s
  obtain ⟨t, h⟩ := exec_next i s
  obtain rfl | ⟨rdata, hresponse⟩ := (exec_effect h).response_cases
  · exact ⟨_, _, h, rfl, by simp, fun _ => rfl⟩
  · exact ⟨t, _, h, hresponse, by simp, fun hrefused => by cases hrefused⟩

/-- Settles O7, one entry of the schedule at a time. -/
theorem stepRunsDecodedCommand : Obligations.StepRunsDecodedCommand := by
  refine ⟨fun s cmd data rest i hschedule hdecode => ?_, fun s rest hschedule => ?_, fun s => step_nil⟩
  · rw [step_host hschedule, transact_of_decode hdecode]
  · rw [step_tick hschedule]
    split
    · rfl
    · next hdisabled => exact tickStep_of_disabled hdisabled

/-- Settles O12: the two transactions decode to the same command. -/
theorem unusedDataIsIgnored : Obligations.UnusedDataIsIgnored := by
  intro cmd data data' i h hi s
  obtain ⟨op, hop, hzeros, hcommand⟩ := decode_eq_ok_iff.mp h
  have h' : decode cmd data' = .ok i :=
    decode_eq_ok_iff.mpr ⟨op, hop, hzeros, command_of_not_usesData data' hcommand hi⟩
  rw [transact_of_decode h, transact_of_decode h']

end Sys2Proof.Machine
end

section
/-! SUPPORT. Fixed-point types (R78 to R85): the least and the greatest raw value are 2^T - 1 apart, which is why both
forms of norm, the clamp and the wrap, give a value of the type. -/

namespace Sys2Proof.Machine

/-! ## The range of a type (R78) -/

theorem FxType.wellFormed_iff {t : FxType} : t.wellFormed = true ↔ 1 ≤ t.total ∧ t.total ≤ 32 := decide_eq_true_iff

theorem FxType.holds_iff {t : FxType} {raw : Int} : t.holds raw = true ↔ t.minRaw ≤ raw ∧ raw ≤ t.maxRaw :=
  decide_eq_true_iff

theorem FxType.maxRaw_eq {t : FxType} (h : 1 ≤ t.total) : t.maxRaw = t.minRaw + 2 ^ t.total - 1 := by
  unfold minRaw maxRaw
  split
  · have hhalves : (2 : Int) ^ t.total = 2 ^ (t.total - 1) * 2 := (pow_sub_one_mul (by omega) 2).symm
    omega
  · omega

theorem FxType.minRaw_le_maxRaw {t : FxType} (h : 1 ≤ t.total) : t.minRaw ≤ t.maxRaw := by
  have hpos : (0 : Int) < 2 ^ t.total := by positivity
  rw [maxRaw_eq h]
  omega

/-! ## clamp (R21) -/

theorem clampInt_mem {lo hi : Int} (v : Int) (h : lo ≤ hi) : lo ≤ clampInt v lo hi ∧ clampInt v lo hi ≤ hi :=
  ⟨le_min (le_max_right v lo) h, min_le_right _ _⟩

theorem clampInt_of_mem {v lo hi : Int} (hlo : lo ≤ v) (hhi : v ≤ hi) : clampInt v lo hi = v := by
  rw [clampInt, max_eq_left hlo, min_eq_left hhi]

theorem clampInt_of_lt {v lo hi : Int} (hv : v < lo) (h : lo ≤ hi) : clampInt v lo hi = lo := by
  rw [clampInt, max_eq_right hv.le, min_eq_left h]

theorem clampInt_of_gt {v lo hi : Int} (hv : hi < v) : clampInt v lo hi = hi :=
  min_eq_right (hv.le.trans (le_max_left v lo))

/-! ## wrap (R79) -/

theorem FxType.holds_wrap {t : FxType} (h : 1 ≤ t.total) (v : Int) : t.holds (t.wrap v) = true := by
  have hpos : (0 : Int) < 2 ^ t.total := by positivity
  have hge := Int.emod_nonneg (v - t.minRaw) hpos.ne'
  have hlt := Int.emod_lt_of_pos (v - t.minRaw) hpos
  rw [holds_iff, maxRaw_eq h, wrap]
  omega

theorem FxType.wrap_of_holds {t : FxType} (h : 1 ≤ t.total) {v : Int} (hv : t.holds v = true) : t.wrap v = v := by
  obtain ⟨hlo, hhi⟩ := holds_iff.mp hv
  rw [maxRaw_eq h] at hhi
  rw [wrap, Int.emod_eq_of_lt (by omega) (by omega), Int.sub_add_cancel]

theorem FxType.wrap_emod (t : FxType) (v : Int) : t.wrap v % 2 ^ t.total = v % 2 ^ t.total := by
  rw [wrap, Int.emod_add_emod, Int.sub_add_cancel]

/-! ## norm (R79, R80) -/

theorem FxType.norm_of_lt {t : FxType} (h : t.total < 32) (v : Int) : t.norm v = clampInt v t.minRaw t.maxRaw :=
  if_pos (decide_eq_true h)

theorem FxType.norm_of_ge {t : FxType} (h : 32 ≤ t.total) (v : Int) : t.norm v = t.wrap v :=
  if_neg (by simpa [saturates] using h)

theorem FxType.holds_norm {t : FxType} (h : 1 ≤ t.total) (v : Int) : t.holds (t.norm v) = true := by
  obtain hsat | hfull := Nat.lt_or_ge t.total 32
  · rw [norm_of_lt hsat]
    exact holds_iff.mpr (clampInt_mem v (minRaw_le_maxRaw h))
  · rw [norm_of_ge hfull]
    exact holds_wrap h v

theorem FxType.norm_of_holds {t : FxType} (h : 1 ≤ t.total) {v : Int} (hv : t.holds v = true) : t.norm v = v := by
  obtain hsat | hfull := Nat.lt_or_ge t.total 32
  · obtain ⟨hlo, hhi⟩ := holds_iff.mp hv
    rw [norm_of_lt hsat, clampInt_of_mem hlo hhi]
  · rw [norm_of_ge hfull, wrap_of_holds h hv]

/-! ## The obligations -/

/-- Settles O18: below 32 bits norm clamps between the bounds, at 32 it wraps by a multiple of 2^T into them. -/
theorem normStaysInType : Obligations.NormStaysInType := by
  intro t v hwf
  obtain ⟨hT, -⟩ := FxType.wellFormed_iff.mp hwf
  refine ⟨FxType.holds_norm hT v, FxType.norm_of_holds hT, fun hsat hlow => ?_, fun hsat hhigh => ?_, fun hfull => ?_⟩
  · rw [FxType.norm_of_lt hsat, clampInt_of_lt hlow (FxType.minRaw_le_maxRaw hT)]
  · rw [FxType.norm_of_lt hsat, clampInt_of_gt hhigh]
  · rw [FxType.norm_of_ge hfull.ge, ← hfull, FxType.wrap_emod]

/-- Settles O19: integral is the quotient by 2^F and fractional the remainder (R83, R84). -/
theorem fixedPointPartsRecompose : Obligations.FixedPointPartsRecompose := by
  intro t raw
  have hpos : (0 : Int) < 2 ^ t.fractionalBits := by positivity
  exact ⟨(Int.ediv_mul_add_emod raw _).symm, Int.emod_nonneg raw hpos.ne', Int.emod_lt_of_pos raw hpos⟩

end Sys2Proof.Machine
end

section
/-! SUPPORT. The glide commands (R92 to R95) and the commands that only read: their equations on a channel that exists and
on one that does not, what they leave unchanged, and how the increment depends on the rate (R97). -/

namespace Sys2Proof.Machine

/-! ## A family of CMD words (R71, R74) -/

theorem transact_of_zeros_set {cmd : Word} {op : Opcode} (data : Word) (hop : opcField cmd = op.code)
    (hzeros : ¬ op.format.zerosOk cmd = true) (s : State) : transact cmd data s = .next s.respondIllegal := by
  simp [transact, decode, hop, hzeros]

/-- An opcode whose format has one must-be-zero field, and whose operands are not checked, encodes its command. -/
theorem encodedAs_of_opcode (op : Opcode) {lo len : Nat} {command : Word → Word → Instr}
    (hzeros : ∀ cmd, op.format.zerosOk cmd = (cmd.extractLsb' lo len == 0))
    (hcommand : ∀ cmd data, op.command cmd data = .ok (command cmd data)) : EncodedAs op.code lo len command := by
  intro cmd data s hop
  split
  · next hzero =>
    have hdecode : decode cmd data = .ok (command cmd data) :=
      (decode_of_opcode data hop (by rw [hzeros, beq_iff_eq, hzero])).trans (hcommand cmd data)
    exact transact_of_decode hdecode s
  · next hset => exact transact_of_zeros_set data hop (by rwa [hzeros, beq_iff_eq]) s

/-! ## The channel after GLIDE_INIT and GLIDE_UPDATE (R92, R93) -/

theorem Glide.init_target (g : Glide) (rate : Rate) (target : Word) (coef : Nat) :
    (g.init rate target coef).target = target := by
  rw [Glide.init]
  split <;> rfl

theorem Glide.init_of_snap {g : Glide} {rate : Rate} {target : Word} (h : rate = 0 ∨ target = g.current) (coef : Nat) :
    g.init rate target coef = Glide.snapTo target :=
  if_pos h

theorem Glide.init_of_arm {g : Glide} {rate : Rate} {target : Word} (h : ¬ (rate = 0 ∨ target = g.current))
    (coef : Nat) : g.init rate target coef = g.armed target coef :=
  if_neg h

theorem Glide.update_of_idle {g : Glide} (h : g.inc = 0) : g.update = g := if_pos h

theorem Glide.update_of_arrives {g : Glide} (hinc : g.inc ≠ 0) (h : g.arrives = true) :
    g.update = Glide.snapTo g.target :=
  (if_neg hinc).trans (if_pos h)

theorem Glide.update_of_not_arrives {g : Glide} (hinc : g.inc ≠ 0) (h : ¬ g.arrives = true) :
    g.update = { g with current := BitVec.ofInt 32 g.nextValue } :=
  (if_neg hinc).trans (if_neg h)

/-- GLIDE_UPDATE never moves the target. -/
theorem Glide.update_target (g : Glide) : g.update.target = g.target := by
  rw [Glide.update]
  split_ifs <;> rfl

/-- A step that does not arrive is exact (R93). -/
theorem Glide.update_current_of_not_arrives {g : Glide} (hinc : g.inc ≠ 0) (h : ¬ g.arrives = true) :
    g.update.current.toInt = g.current.toInt + g.inc.toInt := by
  rw [Glide.update_of_not_arrives hinc h]
  exact Glide.nextValue_toInt hinc h

theorem Glide.update_inc_of_not_arrives {g : Glide} (hinc : g.inc ≠ 0) (h : ¬ g.arrives = true) :
    g.update.inc = g.inc := by
  rw [Glide.update_of_not_arrives hinc h]

theorem Glide.statusWord_eq (g : Glide) : g.statusWord = if g.inc = 0 then 0 else 1 := by
  by_cases hinc : g.inc = 0
  · simp [Glide.statusWord, Glide.active, hinc]
  · have hactive : g.active = true := bne_iff_ne.mpr hinc
    rw [Glide.statusWord, hactive, if_neg hinc]
    rfl

/-! ## The glide commands on a channel that exists, and on one that does not (R92 to R95, R128) -/

section Absent

variable {s : State} {ch : ChannelNo} (hch : s.cfg.numGlide ≤ ch.toNat)

include hch

theorem exec_glideInit_absent (rate : Rate) (target : Word) :
    exec (.glideInit ch rate target) s = .next (s.respond .refused 0) :=
  congrArg Host.Outcome.next (s.withGlide_absent ch _ hch)

theorem exec_glideUpdate_absent : exec (.glideUpdate ch) s = .next (s.respond .refused 0) :=
  congrArg Host.Outcome.next (s.withGlide_absent ch _ hch)

theorem exec_glideRead_absent : exec (.glideRead ch) s = .next (s.respond .refused 0) :=
  congrArg Host.Outcome.next (s.withGlide_absent ch _ hch)

theorem exec_glideStatus_absent : exec (.glideStatus ch) s = .next (s.respond .refused 0) :=
  congrArg Host.Outcome.next (s.withGlide_absent ch _ hch)

end Absent

section Present

variable {s : State} {ch : ChannelNo} {g : Glide} (hch : ch.toNat < s.cfg.numGlide) (hg : s.glide[ch.toNat]? = some g)

include hch hg

theorem exec_glideUpdate_present :
    exec (.glideUpdate ch) s = .next ((s.setGlide ch g.update).respond .ok g.update.current) :=
  congrArg Host.Outcome.next (State.withGlide_present hch hg)

theorem exec_glideRead_present : exec (.glideRead ch) s = .next (s.respond .ok g.current) :=
  congrArg Host.Outcome.next (State.withGlide_present hch hg)

theorem exec_glideStatus_present : exec (.glideStatus ch) s = .next (s.respond .ok g.statusWord) :=
  congrArg Host.Outcome.next (State.withGlide_present hch hg)

end Present

/-! ## Frames -/

/-- A command that only reads leaves everything but the response. -/
theorem CommandEffect.of_readsOnly {s t : State} {i : Instr} (h : CommandEffect s i t) (hi : readsOnly i = true) :
    ∃ status rdata, t = s.respond status rdata := by
  cases h
  case answers rdata hreads => exact ⟨.ok, rdata, rfl⟩
  case refuses => exact ⟨.refused, 0, rfl⟩
  all_goals cases hi

/-- The glide channel a command can write (the "Written" lists of R92 and R93). -/
def glideWritten? : Instr → Option ChannelNo
  | .glideInit ch _ _ | .glideUpdate ch => some ch
  | _ => none

/-- A command that names a glide channel to write is refused, or sets that one channel. -/
theorem CommandEffect.of_glideWritten {s t : State} {i : Instr} {ch : ChannelNo} (h : CommandEffect s i t)
    (hi : glideWritten? i = some ch) :
    t = s.respond .refused 0 ∨ ∃ g rdata, t = (s.setGlide ch g).respond .ok rdata := by
  cases h
  case refuses => exact .inl rfl
  case glideInit | glideUpdate =>
    obtain rfl := Option.some.inj hi
    exact .inr ⟨_, _, rfl⟩
  case answers hreads =>
    cases i
    case glideInit | glideUpdate => cases hreads
    all_goals cases hi
  all_goals cases hi

/-- A command that writes no glide channel leaves them all. -/
theorem CommandEffect.glide_eq {s t : State} {i : Instr} (h : CommandEffect s i t) (hi : glideWritten? i = none) :
    t.glide = s.glide := by
  cases h
  case glideInit | glideUpdate => cases hi
  all_goals rfl

/-- A command leaves every glide channel that it does not write. -/
theorem CommandEffect.glide_other {s t : State} {i : Instr} {c : Nat} (h : CommandEffect s i t)
    (hc : ∀ ch, glideWritten? i = some ch → ch.toNat ≠ c) : t.glide[c]? = s.glide[c]? := by
  cases hi : glideWritten? i with
  | none => rw [h.glide_eq hi]
  | some ch =>
    obtain rfl | ⟨g, rdata, rfl⟩ := h.of_glideWritten hi
    · rfl
    · exact List.getElem?_set_ne (hc ch hi)

/-! ## The parts of a pitch (R83, R84, R94) -/

/-- The integral part of an sQ16.16 word is its high half, read as signed. -/
theorem fxPitch_integral (w : Word) : fxPitch.integral w.toInt = (w.extractLsb' 16 16).toInt := by
  have hdiv : fxPitch.integral w.toInt = w.toInt / 65536 := rfl
  have hhigh : (w.extractLsb' 16 16).toNat = w.toNat / 65536 % 65536 := by
    rw [BitVec.extractLsb'_toNat, Nat.shiftRight_eq_div_pow]
  rw [hdiv, BitVec.toInt_eq_toNat_cond, BitVec.toInt_eq_toNat_cond, hhigh]
  split_ifs <;> omega

/-- The fractional part of an sQ16.16 word is its low half. -/
theorem fxPitch_fractional (w : Word) : fxPitch.fractional w.toInt = ((w.extractLsb' 0 16).toNat : Int) := by
  have hmod : fxPitch.fractional w.toInt = w.toInt % 65536 := rfl
  have hlow : (w.extractLsb' 0 16).toNat = w.toNat % 65536 := BitVec.extractLsb'_toNat ..
  rw [hmod, BitVec.toInt_eq_toNat_cond, hlow]
  split_ifs <;> omega

/-! ## The increment and the rate (R15, R92, R97) -/

/-- The increment's magnitude: the truncated share of the distance, and at least 1. -/
theorem glideIncrement_natAbs {delta : Int} (hdelta : delta ≠ 0) (coef : Nat) :
    (glideIncrement delta coef).natAbs = max (delta.natAbs * coef / 65536) 1 := by
  have hshare : ((delta * coef).tdiv 65536).natAbs = delta.natAbs * coef / 65536 := by
    rw [Int.natAbs_tdiv, Int.natAbs_mul]
    rfl
  unfold glideIncrement
  split
  · next hzero =>
    rw [← hshare, hzero, Int.natAbs_sign_of_ne_zero hdelta]
    rfl
  · next hnonzero =>
    rw [hshare]
    omega

/-- The table rises strictly, so a greater rate has no smaller coefficient (R15). -/
theorem glideCoefAt_mono {cfg : Config} (hcfg : cfg.wellFormed = true) {r r' : Rate} (hr : r.toNat ≤ r'.toNat) :
    glideCoefAt cfg r ≤ glideCoefAt cfg r' := by
  have hrises : cfg.glideCoef.toList.Pairwise (· < ·) := by
    simp only [Config.wellFormed, Config.glideCoefOk, Bool.and_eq_true, decide_eq_true_eq] at hcfg
    tauto
  obtain heq | hlt := hr.eq_or_lt
  · rw [BitVec.toNat_inj.mp heq]
  · have hcoef := List.pairwise_iff_getElem.mp hrises _ _ (by simpa using r.isLt) (by simpa using r'.isLt) hlt
    simp only [Vector.getElem_toList] at hcoef
    exact hcoef.le

/-! ## The obligations -/

/-- Settles O16: a reading command answers or is refused, and both only write the response. -/
theorem readingCommandsWriteNothing : Obligations.ReadingCommandsWriteNothing := by
  intro i s t hi h
  obtain ⟨status, rdata, rfl⟩ := (exec_effect h).of_readsOnly hi
  rfl

/-- Settles O20: an absent channel is refused, and a present one becomes `Glide.init` of it. -/
theorem glideInitSnapsOrArms : Obligations.GlideInitSnapsOrArms := by
  refine ⟨fun s ch rate target hch => exec_glideInit_absent hch rate target, fun s ch rate target g hch hg => ?_,
    encodedAs_of_opcode .glideInit (fun _ => rfl) (fun _ _ => rfl)⟩
  refine ⟨g.init rate target (glideCoefAt s.cfg rate), exec_glideInit_present rate target hch hg,
    g.init_target rate target _, ?_⟩
  split
  · next hsnap =>
    rw [Glide.init_of_snap hsnap]
    exact ⟨rfl, rfl⟩
  · next harm =>
    rw [Glide.init_of_arm harm]
    exact ⟨rfl, g.armed_inc_toInt target (glideCoefAt_le s.cfg rate)⟩

/-- Settles O21: an absent channel is refused, and a present one becomes `Glide.update` of it. -/
theorem glideUpdateStepsOrArrives : Obligations.GlideUpdateStepsOrArrives := by
  refine ⟨fun s ch hch => exec_glideUpdate_absent hch, fun s ch g hch hg => ?_,
    encodedAs_of_opcode .glideUpdate (fun _ => rfl) (fun _ _ => rfl)⟩
  refine ⟨g.update, exec_glideUpdate_present hch hg, g.update_target, ?_⟩
  simp only [← Glide.arrives_iff]
  split_ifs with hidle harrives
  · exact Glide.update_of_idle hidle
  · rw [Glide.update_of_arrives hidle harrives]
    exact ⟨rfl, rfl⟩
  · exact ⟨Glide.update_current_of_not_arrives hidle harrives, Glide.update_inc_of_not_arrives hidle harrives⟩

/-- Settles O22: an absent channel is refused, and a present one's value is read as it is. -/
theorem glideReadAnswersCurrent : Obligations.GlideReadAnswersCurrent :=
  ⟨fun _ _ hch => exec_glideRead_absent hch,
    fun _ _ g hch hg => ⟨exec_glideRead_present hch hg, fxPitch_integral g.current, fxPitch_fractional g.current⟩,
    encodedAs_of_opcode .glideRead (fun _ => rfl) (fun _ _ => rfl)⟩

/-- Settles O23: an absent channel is refused, and a present one's status word is 0 where it is idle and 1 elsewhere. -/
theorem glideStatusAnswersActive : Obligations.GlideStatusAnswersActive := by
  refine ⟨fun s ch hch => exec_glideStatus_absent hch, fun s ch g hch hg => ?_,
    encodedAs_of_opcode .glideStatus (fun _ => rfl) (fun _ _ => rfl)⟩
  rw [← Glide.statusWord_eq]
  exact exec_glideStatus_present hch hg

/-- Settles O24: the two commands are refused or set the one channel they name. -/
theorem glideCommandsWriteOneChannel : Obligations.GlideCommandsWriteOneChannel := by
  intro s t ch i hi h
  have hwritten : glideWritten? i = some ch := by obtain ⟨rate, target, rfl⟩ | rfl := hi <;> rfl
  have hother := fun c (hc : c ≠ ch.toNat) =>
    (exec_effect h).glide_other (c := c) fun ch' hch' => Option.some.inj (hwritten.symm.trans hch') ▸ hc.symm
  obtain rfl | ⟨g, rdata, rfl⟩ := (exec_effect h).of_glideWritten hwritten
  · exact ⟨rfl, rfl, hother, fun _ => rfl⟩
  · exact ⟨rfl, List.length_set, hother, fun _ => rfl⟩

/-- Settles O26: the magnitude is monotone in the coefficient, and the coefficient in the rate. -/
theorem glideIncrementGrowsWithRate : Obligations.GlideIncrementGrowsWithRate := by
  intro cfg delta r r' hcfg hdelta hr
  refine ⟨?_, glideIncrement_sign delta _⟩
  rw [glideIncrement_natAbs hdelta, glideIncrement_natAbs hdelta]
  exact max_le_max_right 1 (Nat.div_le_div_right (Nat.mul_le_mul_left _ (glideCoefAt_mono hcfg hr)))

end Sys2Proof.Machine
end

section
/-! SUPPORT. Taking every step of a schedule: a step takes the schedule's head, and what holds at the end of the schedule and
goes back over a step holds of the whole (R56, R60, R152). -/

namespace Sys2Proof.Machine

theorem exec_schedule {i : Instr} {s t : State} (h : exec i s = .next t) : t.schedule = s.schedule := by
  cases exec_effect h <;> simp

theorem transact_schedule {cmd data : Word} {s t : State} (h : transact cmd data s = .next t) :
    t.schedule = s.schedule := by
  obtain ⟨i, -, heq⟩ | ⟨e, -, heq⟩ := transact_cases cmd data s
  · exact exec_schedule (heq.symm.trans h)
  · obtain rfl := Host.Outcome.next.inj (heq.symm.trans h)
    rfl

theorem tickStep_schedule {s t : State} (h : tickStep s = .next t) : t.schedule = s.schedule := by
  obtain rfl | ⟨v, n, rfl⟩ := tickStep_next_cases h <;> rfl

/-- A step takes the head of the schedule and leaves the rest. -/
theorem step_schedule {s t : State} (h : step s = .next t) : t.schedule = s.schedule.tail := by
  obtain ⟨hnil, heq⟩ | ⟨cmd, data, rest, -, heq⟩ | ⟨rest, -, heq⟩ := step_cases s
  · obtain rfl := Host.Outcome.next.inj (heq.symm.trans h)
    rw [hnil, List.tail_nil]
  · exact transact_schedule (heq.symm.trans h)
  · exact tickStep_schedule (heq.symm.trans h)

theorem runAll_nil {s : State} (h : s.schedule = []) : runAll s = .next s := by
  rw [runAll, h]
  rfl

theorem runAll_cons {s t : State} {a : AgentStep} {rest : List AgentStep} (hschedule : s.schedule = a :: rest)
    (h : step s = .next t) : runAll s = runAll t := by
  rw [runAll, runAll, step_schedule h, hschedule, List.length_cons, List.tail_cons]
  exact core_run_succ _ h

/-- Induction over the schedule of a legal state: its steps are all taken, and `motive` relates it to the state they end in
when it relates a state at the end of its schedule to itself and goes back over every step. -/
theorem State.Inv.runAll_induct {motive : State → State → Prop} {s : State} (hs : s.Inv)
    (nil : ∀ s, s.schedule = [] → motive s s)
    (cons : ∀ s t u a rest, s.Inv → s.schedule = a :: rest → step s = .next t → t.schedule = rest → motive t u →
      motive s u) :
    ∃ u, runAll s = .next u ∧ motive s u := by
  induction hschedule : s.schedule generalizing s with
  | nil => exact ⟨s, runAll_nil hschedule, nil s hschedule⟩
  | cons a rest ih =>
    obtain ⟨t, hstep⟩ := noStepStopsWithinInvariant s hs
    have hrest : t.schedule = rest := by rw [step_schedule hstep, hschedule, List.tail_cons]
    obtain ⟨u, hrun, hu⟩ := ih (stepKeepsInvariant s t hs hstep) hrest
    exact ⟨u, (runAll_cons hschedule hstep).trans hrun, cons s t u a rest hs hschedule hstep hrest hu⟩

/-- The head of the schedule issues a command, which runs, or it issues none and no command runs. -/
theorem step_cons_cases {s : State} {a : AgentStep} {rest : List AgentStep} (h : s.schedule = a :: rest) :
    (∃ i, a.command? = some i ∧ step s = exec i s.dropStep) ∨
    (a.command? = none ∧ (step s = .next s.dropStep.respondIllegal ∨ step s = tickStep s.dropStep)) := by
  rw [State.dropStep_eq h]
  cases a with
  | tick => exact .inr ⟨rfl, .inr (step_tick h)⟩
  | host cmd data =>
    rw [step_host h]
    obtain ⟨i, hdecode, heq⟩ | ⟨e, hdecode, heq⟩ := transact_cases cmd data { s with schedule := rest }
    · exact .inl ⟨i, by rw [AgentStep.command?, hdecode], heq⟩
    · exact .inr ⟨by rw [AgentStep.command?, hdecode], .inl heq⟩

end Sys2Proof.Machine
end

section
/-! SUPPORT. R96: how far a glide has come after any number of updates, and that a schedule without a GLIDE_INIT of the
channel does to it exactly what its GLIDE_UPDATEs do. -/

namespace Sys2Proof.Machine

/-! ## One update, by the distance left (R93) -/

/-- The distance D from the current value to the target (R96). -/
def Glide.remaining (g : Glide) : Nat := (g.target.toInt - g.current.toInt).natAbs

/-- The size |q| of one step (R96). -/
def Glide.stride (g : Glide) : Nat := g.inc.toInt.natAbs

theorem Glide.stride_pos {g : Glide} (hinc : g.inc ≠ 0) : 0 < g.stride :=
  Int.natAbs_pos.mpr fun h => hinc (BitVec.toInt_inj.mp h)

theorem Glide.remaining_pos {g : Glide} (hg : g.Ok) (hinc : g.inc ≠ 0) : 0 < g.remaining := by
  obtain ⟨-, hactive⟩ := hg
  obtain ⟨hne, -⟩ := hactive hinc
  exact Int.natAbs_pos.mpr fun h => hne (BitVec.toInt_inj.mp (by omega))

/-- An active legal channel goes toward its target (R49, I5). -/
theorem Glide.Ok.direction {g : Glide} (hg : g.Ok) (hinc : g.inc ≠ 0) :
    (0 < g.inc.toInt ∧ g.current.toInt < g.target.toInt) ∨ (g.inc.toInt < 0 ∧ g.target.toInt < g.current.toInt) := by
  obtain ⟨-, hactive⟩ := hg
  obtain ⟨-, hsign⟩ := hactive hinc
  obtain hneg | hzero | hpos := lt_trichotomy g.inc.toInt 0
  · rw [Int.sign_eq_neg_one_of_neg hneg, eq_comm, Int.sign_eq_neg_one_iff_neg] at hsign
    omega
  · exact absurd (BitVec.toInt_inj.mp hzero) hinc
  · rw [Int.sign_eq_one_of_pos hpos, eq_comm, Int.sign_eq_one_iff_pos] at hsign
    omega

theorem Glide.update_stride {g : Glide} (hinc : g.inc ≠ 0) (h : ¬ g.arrives = true) : g.update.stride = g.stride := by
  rw [Glide.stride, Glide.update_inc_of_not_arrives hinc h, Glide.stride]

/-- A channel arrives exactly where the distance left is at most one step. -/
theorem Glide.Ok.arrives_iff_remaining_le {g : Glide} (hg : g.Ok) (hinc : g.inc ≠ 0) :
    g.arrives = true ↔ g.remaining ≤ g.stride := by
  have hdirection := hg.direction hinc
  rw [Glide.arrives_iff, Glide.remaining, Glide.stride]
  omega

/-- A step that does not arrive leaves one step less to go. -/
theorem Glide.Ok.update_remaining {g : Glide} (hg : g.Ok) (hinc : g.inc ≠ 0) (h : ¬ g.arrives = true) :
    g.update.remaining = g.remaining - g.stride := by
  have hdirection := hg.direction hinc
  have hshort := (hg.arrives_iff_remaining_le hinc).not.mp h
  rw [Glide.remaining, Glide.stride] at hshort
  rw [Glide.remaining, g.update_target, Glide.update_current_of_not_arrives hinc h, Glide.remaining, Glide.stride]
  omega

/-! ## Any number of updates (R96) -/

theorem Glide.iterate_update_target (g : Glide) (n : Nat) : (Glide.update^[n] g).target = g.target := by
  induction n with
  | zero => rfl
  | succ n ih => rw [Function.iterate_succ_apply', Glide.update_target, ih]

/-- While n steps do not cover the distance, n updates are n exact steps. -/
theorem Glide.Ok.iterate_update_of_lt {g : Glide} {n : Nat} (hg : g.Ok) (hinc : g.inc ≠ 0)
    (h : n * g.stride < g.remaining) :
    (Glide.update^[n] g).current.toInt = g.current.toInt + n * g.inc.toInt ∧ (Glide.update^[n] g).inc = g.inc := by
  induction n generalizing g with
  | zero => simp
  | succ n ih =>
    rw [Nat.succ_mul] at h
    have harrives : ¬ g.arrives = true := by
      rw [hg.arrives_iff_remaining_le hinc]
      omega
    have hinc' := Glide.update_inc_of_not_arrives hinc harrives
    have hlt : n * g.update.stride < g.update.remaining := by
      rw [Glide.update_stride hinc harrives, hg.update_remaining hinc harrives]
      omega
    obtain ⟨hcurrent, hsame⟩ := ih hg.update (hinc' ▸ hinc) hlt
    rw [Function.iterate_succ_apply]
    refine ⟨?_, hsame.trans hinc'⟩
    rw [hcurrent, hinc', Glide.update_current_of_not_arrives hinc harrives]
    push_cast
    ring

/-- Once n steps cover the distance, n updates have put the channel on its target, idle. -/
theorem Glide.Ok.iterate_update_of_ge {g : Glide} {n : Nat} (hg : g.Ok) (hinc : g.inc ≠ 0)
    (h : g.remaining ≤ n * g.stride) : Glide.update^[n] g = Glide.snapTo g.target := by
  induction n generalizing g with
  | zero =>
    have hpos := Glide.remaining_pos hg hinc
    omega
  | succ n ih =>
    rw [Function.iterate_succ_apply]
    by_cases harrives : g.arrives = true
    · rw [Glide.update_of_arrives hinc harrives]
      exact Function.iterate_fixed (Glide.update_of_idle rfl) n
    · rw [Nat.succ_mul] at h
      have hinc' := Glide.update_inc_of_not_arrives hinc harrives
      have hle : g.update.remaining ≤ n * g.update.stride := by
        rw [Glide.update_stride hinc harrives, hg.update_remaining hinc harrives]
        omega
      rw [ih hg.update (hinc' ▸ hinc) hle, g.update_target]

/-! ## The channel over a schedule (R96) -/

theorem AgentStep.isGlideInit_of_command {a : AgentStep} {ch : ChannelNo} {rate : Rate} {target : Word}
    (h : a.command? = some (.glideInit ch rate target)) : a.isGlideInit ch = true := by
  rw [AgentStep.isGlideInit, h]
  exact beq_self_eq_true ch

theorem AgentStep.isGlideUpdate_iff {a : AgentStep} {ch : ChannelNo} :
    a.isGlideUpdate ch = true ↔ a.command? = some (.glideUpdate ch) := by
  unfold AgentStep.isGlideUpdate
  split
  · next c h => simp [h]
  · next h => exact ⟨fun hfalse => (Bool.false_ne_true hfalse).elim, fun hch => absurd hch (h ch)⟩

/-- A command that is neither a GLIDE_INIT nor a GLIDE_UPDATE of the channel does not write it. -/
theorem glideWritten?_ne_of_command {a : AgentStep} {i : Instr} {ch : ChannelNo} (hi : a.command? = some i)
    (hinit : a.isGlideInit ch = false) (hupdate : ¬ a.isGlideUpdate ch = true) : glideWritten? i ≠ some ch := by
  intro hwritten
  cases i
  case glideInit =>
    obtain rfl := Option.some.inj hwritten
    exact Bool.false_ne_true (hinit.symm.trans (AgentStep.isGlideInit_of_command hi))
  case glideUpdate =>
    obtain rfl := Option.some.inj hwritten
    exact hupdate (AgentStep.isGlideUpdate_iff.mpr hi)
  all_goals cases hwritten

theorem tickStep_glide {s t : State} (h : tickStep s = .next t) : t.glide = s.glide := by
  obtain rfl | ⟨v, n, rfl⟩ := tickStep_next_cases h <;> rfl

/-- A step that is no GLIDE_INIT of the channel updates it if it is a GLIDE_UPDATE of it, and leaves it if not. -/
theorem step_glide {s t : State} {a : AgentStep} {rest : List AgentStep} {ch : ChannelNo} {g : Glide} (hs : s.Inv)
    (hschedule : s.schedule = a :: rest) (h : step s = .next t) (hinit : a.isGlideInit ch = false)
    (hg : s.glide[ch.toNat]? = some g) :
    t.glide[ch.toNat]? = some (if a.isGlideUpdate ch then g.update else g) := by
  have hg' : s.dropStep.glide[ch.toNat]? = some g := hg
  obtain ⟨i, hi, heq⟩ | ⟨hnone, hquiet⟩ := step_cons_cases hschedule
  · have hexec : exec i s.dropStep = .next t := heq.symm.trans h
    split
    · next hupdate =>
      obtain rfl := Option.some.inj (hi.symm.trans (AgentStep.isGlideUpdate_iff.mp hupdate))
      obtain ⟨hlt, -⟩ := List.getElem?_eq_some_iff.mp hg'
      rw [exec_glideUpdate_present (hs.dropStep.glideCount ▸ hlt) hg'] at hexec
      obtain rfl := Host.Outcome.next.inj hexec
      exact State.setGlide_getElem? hg' g.update
    · next hupdate =>
      rw [(exec_effect hexec).glide_other fun ch' hch' hsame => ?_, hg']
      obtain rfl := BitVec.toNat_inj.mp hsame
      exact glideWritten?_ne_of_command hi hinit hupdate hch'
  · rw [if_neg fun hupdate => by cases hnone.symm.trans (AgentStep.isGlideUpdate_iff.mp hupdate)]
    obtain hillegal | htick := hquiet
    · obtain rfl := Host.Outcome.next.inj (hillegal.symm.trans h)
      exact hg'
    · rw [tickStep_glide (htick.symm.trans h), hg']

/-- From `s` to `t` the channel takes the schedule's GLIDE_UPDATEs of it and nothing else, if no GLIDE_INIT of it is there. -/
def GlideTakesUpdates (ch : ChannelNo) (s t : State) : Prop :=
  ∀ g, s.glide[ch.toNat]? = some g → (∀ a ∈ s.schedule, a.isGlideInit ch = false) →
    t.glide[ch.toNat]? = some (Glide.update^[s.schedule.countP (·.isGlideUpdate ch)] g)

/-- Over every schedule of a legal state, its GLIDE_UPDATEs and GLIDE_INITs are all that acts on a glide channel. -/
theorem runAll_glide {s : State} (hs : s.Inv) (ch : ChannelNo) : ∃ t, runAll s = .next t ∧ GlideTakesUpdates ch s t := by
  refine hs.runAll_induct (fun s hnil g hg _ => ?_) fun s t u a rest hs hschedule hstep hrest hu g hg hinit => ?_
  · rw [hnil]
    exact hg
  · rw [hschedule, List.forall_mem_cons] at hinit
    obtain ⟨hhead, htail⟩ := hinit
    have ht := step_glide hs hschedule hstep hhead hg
    rw [hu _ ht (hrest ▸ htail), hrest, hschedule, List.countP_cons]
    split
    · rw [Function.iterate_succ_apply]
    · rw [Nat.add_zero]

/-- ceil(D / q) is the least number of steps of q that cover D. -/
theorem ceil_le_iff_le_mul {dist q n : Nat} (hq : 0 < q) : (dist + q - 1) / q ≤ n ↔ dist ≤ n * q := by
  rw [← Nat.ceilDiv_eq_add_pred_div, ceilDiv_le_iff_le_mul hq, Nat.mul_comm]

/-- Settles O25: the run does to the channel what its GLIDE_UPDATEs do, and n updates are n exact steps until n steps cover
the distance. -/
theorem glideConvergesInExactlyCeilUpdates : Obligations.GlideConvergesInExactlyCeilUpdates := by
  intro s ch g dist q count hs hg hinc hdist hq hcount hinit
  obtain rfl : dist = g.remaining := hdist
  obtain rfl : q = g.stride := hq
  have hok : g.Ok := hs.glide g (List.mem_of_getElem? hg)
  have hcover (n : Nat) : count ≤ n ↔ g.remaining ≤ n * g.stride := hcount ▸ ceil_le_iff_le_mul (Glide.stride_pos hinc)
  obtain ⟨t, hrun, ht⟩ := runAll_glide hs ch
  refine ⟨(hcover _).mpr (Nat.le_mul_of_pos_right _ (Glide.stride_pos hinc)), g.distanceTo_natAbs_le g.target,
    t, _, hrun, ht g hg hinit, g.iterate_update_target _, fun hbefore => ?_, fun hafter => ?_⟩
  · rw [← Nat.not_le, hcover, Nat.not_le] at hbefore
    exact hok.iterate_update_of_lt hinc hbefore
  · rw [hok.iterate_update_of_ge hinc ((hcover _).mp hafter)]
    exact ⟨rfl, rfl⟩

end Sys2Proof.Machine
end

section
/-! SUPPORT. The LFO's arithmetic (R99 to R102): advance by its two kinds of shape, each waveform's range on the bits of the
phase it reads, and fold as the saturating norm of sQ1.15. -/

namespace Sys2Proof.Machine

/-! ## advance (R99) -/

theorem advance_ramp (p inc : Nat) : advance p inc .ramp = min (p + inc) (2 ^ 31) := rfl

theorem advance_of_ne_ramp {shape : Shape} (h : shape ≠ .ramp) (p inc : Nat) :
    advance p inc shape = if 2 ^ 31 ≤ p + inc then p + inc - 2 ^ 31 else p + inc :=
  if_neg h

/-- One wrap is enough: two phases of at most 1.0, one of them below it, are together less than 2.0. -/
theorem advance_lt_of_ne_ramp {p inc : Nat} {shape : Shape} (h : shape ≠ .ramp) (hp : p ≤ 2 ^ 31)
    (hinc : inc < 2 ^ 31) : advance p inc shape < 2 ^ 31 := by
  rw [advance_of_ne_ramp h]
  split <;> omega

theorem advance_ramp_one (inc : Nat) : advance (2 ^ 31) inc .ramp = 2 ^ 31 := by
  rw [advance_ramp, Nat.min_eq_right (Nat.le_add_right _ _)]

/-! ## The waveforms (R100)

The five computed shapes read v, the phase's bits 30 to 15, or u, which is at most 65536. -/

theorem waveTriangle_mem {v : Nat} (hv : v < 65536) : -32768 ≤ waveTriangle v ∧ waveTriangle v ≤ 32767 := by
  unfold waveTriangle
  split <;> omega

theorem waveSaw_mem {v : Nat} (hv : v < 65536) : -32768 ≤ waveSaw v ∧ waveSaw v ≤ 32767 := by
  unfold waveSaw
  omega

theorem waveSquare_mem (v : Nat) : -32768 ≤ waveSquare v ∧ waveSquare v ≤ 32767 := by
  unfold waveSquare
  split <;> decide

/-- A signed 16-bit value is in the output's range. -/
theorem channel_toInt_mem (c : Channel) : -32768 ≤ c.toInt ∧ c.toInt ≤ 32767 :=
  ⟨c.le_toInt, Int.le_of_lt_add_one BitVec.toInt_lt⟩

/-- The floor of an interpolation stays between any bounds of its two ends. -/
theorem interpolate_mem {a b lo hi : Int} {f : Nat} (hf : f ≤ 256) (ha : lo ≤ a ∧ a ≤ hi) (hb : lo ≤ b ∧ b ≤ hi) :
    lo ≤ a + (b - a) * f / 256 ∧ a + (b - a) * f / 256 ≤ hi := by
  obtain ⟨hloa, hahi⟩ := ha
  obtain ⟨hlob, hbhi⟩ := hb
  have hsum : 256 * a + (b - a) * f = a * (256 - f) + b * f := by ring
  have hshare : (0 : Int) ≤ 256 - f := by omega
  have hlow : lo * (256 - f) + lo * f ≤ a * (256 - f) + b * f := by gcongr
  have hhigh : a * (256 - f) + b * f ≤ hi * (256 - f) + hi * f := by gcongr
  rw [← hsum, ← mul_add, sub_add_cancel] at hlow hhigh
  constructor <;> omega

theorem waveSine_mem (cfg : Config) (v : Nat) : -32768 ≤ waveSine cfg v ∧ waveSine cfg v ≤ 32767 :=
  interpolate_mem (Nat.mod_lt v (by decide)).le (channel_toInt_mem _) (channel_toInt_mem _)

theorem waveRamp_mem {u : Nat} (hu : u ≤ 65536) : -32768 ≤ waveRamp u ∧ waveRamp u ≤ 32767 := by
  unfold waveRamp
  omega

/-- Every output is in sQ1.15 with no clamp needed (R100). -/
theorem wave_mem {p : Nat} (cfg : Config) (shape : Shape) (hp : p ≤ 2 ^ 31) (random : Channel) :
    -32768 ≤ wave cfg shape p random ∧ wave cfg shape p random ≤ 32767 := by
  have hv : p / 2 ^ 15 % 65536 < 65536 := Nat.mod_lt _ (by decide)
  cases shape with
  | triangle => exact waveTriangle_mem hv
  | saw => exact waveSaw_mem hv
  | square => exact waveSquare_mem _
  | sine => exact waveSine_mem cfg _
  | ramp => exact waveRamp_mem (by omega)
  | random => exact channel_toInt_mem random

theorem sineAt_eq {cfg : Config} {i : Nat} (h : i < 257) : sineAt cfg i = cfg.sine[i].toInt := by
  rw [sineAt, Vector.getElem?_eq_getElem h, Option.getD_some]

/-- SINE's formula with both entries inside the table (R17, R100). -/
theorem waveSine_eq {cfg : Config} {v : Nat} (h : v / 256 < 257) (h' : v / 256 + 1 < 257) :
    waveSine cfg v = cfg.sine[v / 256].toInt +
      ((cfg.sine[v / 256 + 1].toInt - cfg.sine[v / 256].toInt) * ((v % 256 : Nat) : Int)).fdiv 256 := by
  rw [waveSine, sineAt_eq h, sineAt_eq h', Int.fdiv_eq_ediv_of_nonneg _ (by decide)]

/-! ## fold (R102) -/

theorem fold_eq (y : Int) : fold y = min |y| 32767 := by
  rw [fold, Int.abs_eq_natAbs]

theorem fold_mem (y : Int) : 0 ≤ fold y ∧ fold y ≤ 32767 :=
  ⟨le_min (Int.natCast_nonneg _) (by decide), min_le_right _ _⟩

/-- An absolute value can only be too great for sQ1.15, so fold clamps as its norm does (R79, R102). -/
theorem fold_eq_norm (y : Int) : fold y = fxOutput.norm |y| := by
  have hmin : fxOutput.minRaw = -32768 := rfl
  have hmax : fxOutput.maxRaw = 32767 := rfl
  have hlow : -32768 ≤ |y| := Int.le_trans (by decide) (abs_nonneg y)
  rw [FxType.norm_of_lt (by decide), hmin, hmax, clampInt, max_eq_left hlow, fold_eq]

/-! ## The obligations -/

/-- Settles O27, from the equations and the range of the two kinds of shape. -/
theorem advanceWrapsOrClamps : Obligations.AdvanceWrapsOrClamps := by
  refine fun p inc shape hp hinc => ⟨rfl, fun h => advance_lt_of_ne_ramp h hp hinc, ?_⟩
  rintro rfl
  rw [advance_ramp]
  exact ⟨le_min (Nat.le_add_right p inc) hp, min_le_right _ _⟩

/-- Settles O28: the formulas are the model's, with shifts for the quotients by powers of 2. -/
theorem waveFollowsFormulasInRange : Obligations.WaveFollowsFormulasInRange := by
  rintro cfg p random shape u v hp rfl rfl
  obtain ⟨hlow, hhigh⟩ := wave_mem cfg shape hp random
  simp only [Nat.shiftRight_eq_div_pow]
  exact ⟨by omega, hlow, hhigh, rfl, rfl, rfl, fun h h' => waveSine_eq h h', by omega, rfl, rfl⟩

/-- Settles O29: fold is the minimum by its definition, and norm clamps an absolute value from above only. -/
theorem foldSaturatesAbsoluteValue : Obligations.FoldSaturatesAbsoluteValue :=
  fun y _ _ => ⟨fold_eq y, rfl, fold_eq_norm y, (fold_mem y).1⟩

end Sys2Proof.Machine
end

section
/-! SUPPORT. The LFO commands (R103 to R106): the channel an update leaves, their equations on a channel that exists and on
one that does not, what they leave unchanged, and which words run LFO_UPDATE. -/

namespace Sys2Proof.Machine

/-! ## The channel after LFO_UPDATE (R104) -/

/-- Whether or not it is folded, the output value is in sQ1.15. -/
theorem lfoOutput_mem {p : Nat} (cfg : Config) (shape : Shape) (abs : Bool) (hp : p ≤ 2 ^ 31) (random : Channel) :
    -32768 ≤ lfoOutput cfg shape abs p random ∧ lfoOutput cfg shape abs p random ≤ 32767 := by
  cases abs with
  | false => exact wave_mem cfg shape hp random
  | true =>
    obtain ⟨hlow, hhigh⟩ := fold_mem (wave cfg shape p random)
    exact ⟨Int.le_trans (by decide) hlow, hhigh⟩

/-- An advance fits the phase register, so the register holds it exactly. -/
theorem Lfo.nextPhase_toNat {l : Lfo} (hphase : l.phase.toNat ≤ 2 ^ 31) {inc : Word} (hinc : inc.toNat < 2 ^ 31)
    (shape : Shape) :
    (l.nextPhase inc shape).toNat =
      if l.pending then l.resetPhase.toNat else advance l.phase.toNat inc.toNat shape := by
  have hle := advance_le hphase hinc shape
  rw [Lfo.nextPhase]
  split
  · rfl
  · rw [BitVec.toNat_ofNat, Nat.mod_eq_of_lt (by omega)]

/-- Only a RAMP leaves a phase of 1.0 (R105). -/
theorem Lfo.Ok.nextPhase_lt {l : Lfo} (hl : l.Ok) {inc : Word} (hinc : inc.toNat < 2 ^ 31) {shape : Shape}
    (hshape : shape ≠ .ramp) : (l.nextPhase inc shape).toNat < 2 ^ 31 := by
  obtain ⟨hphase, -, hreset⟩ := hl
  rw [Lfo.nextPhase_toNat hphase hinc]
  split
  · exact hreset
  · exact advance_lt_of_ne_ramp hshape hphase hinc

/-- The output register holds the output value of the new phase exactly. -/
theorem Lfo.update_out_toInt {l : Lfo} {cfg : Config} {rate : Rate} {shape : Shape} {abs : Bool} {random : Channel}
    (hphase : (l.update cfg rate shape abs random).phase.toNat ≤ 2 ^ 31) :
    (l.update cfg rate shape abs random).out.toInt =
      lfoOutput cfg shape abs (l.update cfg rate shape abs random).phase.toNat random := by
  obtain ⟨hlow, hhigh⟩ := lfoOutput_mem cfg shape abs hphase random
  exact BitVec.toInt_ofInt_eq_self (by decide) hlow (Int.lt_add_one_of_le hhigh)

/-! ## The LFO commands on a channel that exists, and on one that does not (R103 to R106, R128) -/

section Absent

variable {s : State} {ch : ChannelNo} (hch : 3 ≤ ch.toNat)

include hch

theorem exec_lfoInit_absent (rate : Rate) (startPhase : Word) :
    exec (.lfoInit ch rate startPhase) s = .next (s.respond .refused 0) :=
  congrArg Host.Outcome.next (s.withLfo_absent ch _ hch)

theorem exec_lfoUpdate_absent (rate : Rate) (shape : Shape) (abs : Bool) :
    exec (.lfoUpdate ch rate shape abs) s = .next (s.respond .refused 0) :=
  congrArg Host.Outcome.next (s.withLfo_absent ch _ hch)

theorem exec_lfoPhase_absent : exec (.lfoPhase ch) s = .next (s.respond .refused 0) :=
  congrArg Host.Outcome.next (s.withLfo_absent ch _ hch)

theorem exec_lfoOut_absent : exec (.lfoOut ch) s = .next (s.respond .refused 0) :=
  congrArg Host.Outcome.next (s.withLfo_absent ch _ hch)

end Absent

/-- LFO_INIT refuses a start phase of 1.0 or more on every channel (R103). -/
theorem exec_lfoInit_phase_refused {startPhase : Word} (hphase : 2 ^ 31 ≤ startPhase.toNat) (s : State) (ch : ChannelNo)
    (rate : Rate) : exec (.lfoInit ch rate startPhase) s = .next (s.respond .refused 0) := by
  refine congrArg Host.Outcome.next ?_
  obtain h | ⟨l, -, h⟩ := s.withLfo_cases ch _
  · exact h
  · exact h.trans (if_pos hphase)

section Present

variable {s : State} {ch : ChannelNo} {l : Lfo} (hl : s.lfo[ch.toNat]? = some l)

include hl

theorem exec_lfoUpdate_present (rate : Rate) (shape : Shape) (abs : Bool) :
    exec (.lfoUpdate ch rate shape abs) s =
      .next (((s.setLfo ch (l.update s.cfg rate shape abs (Config.freeRandom s.draws))).takeDraws
        (Shape.drawCount shape)).respond .ok (l.update s.cfg rate shape abs (Config.freeRandom s.draws)).outWord) :=
  congrArg Host.Outcome.next (State.withLfo_present hl)

theorem exec_lfoPhase_present : exec (.lfoPhase ch) s = .next (s.respond .ok l.phase) :=
  congrArg Host.Outcome.next (State.withLfo_present hl)

theorem exec_lfoOut_present : exec (.lfoOut ch) s = .next (s.respond .ok l.outWord) :=
  congrArg Host.Outcome.next (State.withLfo_present hl)

/-- The channel an LFO_UPDATE leaves. -/
theorem exec_lfoUpdate_lfo {t : State} {rate : Rate} {shape : Shape} {abs : Bool}
    (h : exec (.lfoUpdate ch rate shape abs) s = .next t) :
    t.lfo[ch.toNat]? = some (l.update s.cfg rate shape abs (Config.freeRandom s.draws)) := by
  obtain rfl := Host.Outcome.next.inj ((exec_lfoUpdate_present hl rate shape abs).symm.trans h)
  exact State.setLfo_getElem? hl _

end Present

/-! ## Frames -/

/-- The LFO channel a command can write (the "Written" lists of R103 and R104). -/
def lfoWritten? : Instr → Option ChannelNo
  | .lfoInit ch _ _ | .lfoUpdate ch _ _ _ => some ch
  | _ => none

/-- A command that names an LFO channel to write is refused, or sets that one channel and takes some draws. -/
theorem CommandEffect.of_lfoWritten {s t : State} {i : Instr} {ch : ChannelNo} (h : CommandEffect s i t)
    (hi : lfoWritten? i = some ch) :
    t = s.respond .refused 0 ∨ ∃ l n rdata, t = ((s.setLfo ch l).takeDraws n).respond .ok rdata := by
  cases h
  case refuses => exact .inl rfl
  case lfoInit =>
    obtain rfl := Option.some.inj hi
    exact .inr ⟨_, 0, _, rfl⟩
  case lfoUpdate =>
    obtain rfl := Option.some.inj hi
    exact .inr ⟨_, _, _, rfl⟩
  case answers hreads =>
    cases i
    case lfoInit | lfoUpdate => cases hreads
    all_goals cases hi
  all_goals cases hi

theorem exec_lfoInit_draws {s t : State} {ch : ChannelNo} {rate : Rate} {startPhase : Word}
    (h : exec (.lfoInit ch rate startPhase) s = .next t) : t.draws = s.draws := by
  cases exec_effect h <;> rfl

/-! ## The words that run LFO_UPDATE (R71, R74, R75) -/

/-- The codes of the six shapes are the six below the reserved ones (R98). -/
theorem exists_shape_code_iff (code : BitVec 3) : (∃ shape : Shape, code = shape.code) ↔ code.toNat < 6 := by
  have hcodes : ∀ code : BitVec 3, (Shape.ofCode? code).isSome = true ↔ code.toNat < 6 := by decide
  rw [← hcodes, Option.isSome_iff_exists]
  simp only [Shape.ofCode?_eq_some_iff]

/-- A word of LFO_UPDATE's opcode decodes exactly where its must-be-zero bits are 0 and its shape is one of R98's. -/
theorem decode_lfoUpdate_eq_ok_iff {cmd data : Word} {i : Instr} (hop : opcField cmd = Opcode.lfoUpdate.code) :
    decode cmd data = .ok i ↔
      (cmd.extractLsb' 12 8 = 0 ∧ cmd.getLsbD 7 = false) ∧
      ∃ shape, shapeField cmd = shape.code ∧ .lfoUpdate (chField cmd) (rateField cmd) shape (absField cmd) = i := by
  have hzeros : Format.flu.zerosOk cmd = true ↔ cmd.extractLsb' 12 8 = 0 ∧ cmd.getLsbD 7 = false := by
    rw [Format.zerosOk, Bool.and_eq_true, beq_iff_eq, Bool.not_eq_true']
  rw [decode_eq_ok_iff, ← command_lfoUpdate_eq_ok_iff (data := data), ← hzeros]
  refine ⟨fun ⟨op, hop', hz, hcommand⟩ => ?_, fun ⟨hz, hcommand⟩ => ⟨.lfoUpdate, hop, hz, hcommand⟩⟩
  obtain rfl : op = .lfoUpdate := Opcode.code_inj (hop'.symm.trans hop)
  exact ⟨hz, hcommand⟩

theorem transact_of_not_decodes {cmd data : Word} (h : ∀ i, decode cmd data ≠ .ok i) (s : State) :
    transact cmd data s = .next s.respondIllegal := by
  obtain ⟨i, hdecode, -⟩ | ⟨e, -, heq⟩ := transact_cases cmd data s
  · exact absurd hdecode (h i)
  · exact heq

/-! ## The obligations -/

/-- Settles O30: an absent channel and a start phase of 1.0 are refused, and a present channel becomes `Lfo.init` of it. -/
theorem lfoInitArmsReset : Obligations.LfoInitArmsReset := by
  refine ⟨fun s ch rate start h => ?_, fun s ch rate start l hl hphase => ?_,
    fun ch hch s => ⟨s.lfo[ch.toNat], Vector.getElem?_eq_getElem hch⟩,
    encodedAs_of_opcode .lfoInit (fun _ => rfl) (fun _ _ => rfl)⟩
  · obtain hch | hphase := h
    · exact exec_lfoInit_absent hch rate start
    · exact exec_lfoInit_phase_refused hphase s ch rate
  · exact ⟨l.init (lfoIncAt s.cfg rate) start, exec_lfoInit_present rate hl hphase, lfoIncAt_toNat s.cfg rate, rfl, rfl,
      rfl, rfl⟩

/-- Settles O31: an absent channel is refused, and a present one becomes `Lfo.update` of it, whose registers hold the
advanced phase and the output value exactly. -/
theorem lfoUpdateAdvancesAndOutputs : Obligations.LfoUpdateAdvancesAndOutputs := by
  refine ⟨fun s ch rate shape abs hch => exec_lfoUpdate_absent hch rate shape abs,
    fun s ch rate shape abs l hl hok => ?_, fun cmd data s hop => ?_⟩
  · have hphase := (hok.update s.cfg rate shape abs (Config.freeRandom s.draws)).1
    refine ⟨_, exec_lfoUpdate_present hl rate shape abs, lfoIncAt_toNat s.cfg rate, rfl, rfl,
      Lfo.nextPhase_toNat hok.1 (lfoIncAt_lt s.cfg rate) shape, ?_⟩
    rw [Lfo.update_out_toInt hphase, lfoOutput, fold_eq]
  · split
    · next hlegal =>
      obtain ⟨hhigh, hbit, hcode⟩ := hlegal
      obtain ⟨shape, hshape⟩ := (exists_shape_code_iff _).mpr hcode
      have hdecode := (decode_lfoUpdate_eq_ok_iff (data := data) hop).mpr ⟨⟨hhigh, hbit⟩, shape, hshape, rfl⟩
      exact ⟨shape, hshape.symm, transact_of_decode hdecode s⟩
    · next hillegal =>
      refine transact_of_not_decodes (fun i hdecode => hillegal ?_) s
      obtain ⟨⟨hhigh, hbit⟩, shape, hshape, -⟩ := (decode_lfoUpdate_eq_ok_iff hop).mp hdecode
      exact ⟨hhigh, hbit, (exists_shape_code_iff _).mp ⟨shape, hshape⟩⟩

/-- Settles O32: the phase register is read as it is, and an update but a RAMP's leaves it below 1.0. -/
theorem lfoPhaseAnswersPhase : Obligations.LfoPhaseAnswersPhase := by
  refine ⟨fun s ch hch => exec_lfoPhase_absent hch, fun s ch l hl => exec_lfoPhase_present hl,
    fun s t ch rate shape abs l l' hl hok hshape h hl' => ?_,
    encodedAs_of_opcode .lfoPhase (fun _ => rfl) (fun _ _ => rfl)⟩
  obtain rfl := Option.some.inj ((exec_lfoUpdate_lfo hl h).symm.trans hl')
  exact hok.nextPhase_lt (lfoIncAt_lt s.cfg rate) hshape

/-- Settles O33: the answer is the output's sign extension, which keeps its signed value. -/
theorem lfoOutAnswersOutput : Obligations.LfoOutAnswersOutput :=
  ⟨fun _ _ hch => exec_lfoOut_absent hch,
    fun _ _ l hl => ⟨l.outWord, BitVec.toInt_signExtend_of_le (by decide), exec_lfoOut_present hl⟩,
    encodedAs_of_opcode .lfoOut (fun _ => rfl) (fun _ _ => rfl)⟩

/-- Settles O34: the two commands are refused or set the one channel they name. -/
theorem lfoCommandsWriteOneChannel : Obligations.LfoCommandsWriteOneChannel := by
  intro s t ch i hi h
  have hwritten : lfoWritten? i = some ch := by obtain ⟨rate, start, rfl⟩ | ⟨rate, shape, abs, rfl⟩ := hi <;> rfl
  have hdraws : (∃ rate start, i = .lfoInit ch rate start) → t.draws = s.draws := by
    rintro ⟨rate, start, rfl⟩
    exact exec_lfoInit_draws h
  obtain rfl | ⟨l, n, rdata, rfl⟩ := (exec_effect h).of_lfoWritten hwritten
  · exact ⟨rfl, fun _ _ _ => rfl, hdraws, fun _ => rfl⟩
  · exact ⟨rfl, fun k hk hne => Vector.getElem_setIfInBounds_ne hk hne.symm, hdraws, fun _ => rfl⟩

/-- Settles O35: a RAMP's advance is clamped at 1.0, where its wave is 32767, which fold leaves. -/
theorem rampStaysAtOne : Obligations.RampStaysAtOne := by
  intro s t ch l rate abs hl hone hpending h
  have hphase : (l.update s.cfg rate .ramp abs (Config.freeRandom s.draws)).phase.toNat = 2 ^ 31 := by
    refine (Lfo.nextPhase_toNat hone.le (lfoIncAt_lt s.cfg rate) .ramp).trans ?_
    rw [hpending, if_neg Bool.false_ne_true, hone, advance_ramp_one]
  refine ⟨_, exec_lfoUpdate_lfo hl h, hphase, rfl, ?_⟩
  rw [Lfo.update_out_toInt hphase.le, hphase]
  cases abs <;> rfl

/-- Settles O36: the RANDOM wave is the draw whatever the phase, and the output register holds a draw exactly. -/
theorem randomOutputIsAFreshDraw : Obligations.RandomOutputIsAFreshDraw := by
  intro s ch rate hch
  have hl := Vector.getElem?_eq_getElem (xs := s.lfo) hch
  exact ⟨_, _, exec_lfoUpdate_present hl rate .random false, State.setLfo_getElem? hl _, BitVec.ofInt_toInt, rfl⟩

end Sys2Proof.Machine
end

section
/-! SUPPORT. The ring buffer commands (R107 to R112): the counts of the ring, the fields of its two words, each command's
equation in a ring that is full and in one that is not, and what they leave unchanged. -/

namespace Sys2Proof.Machine

/-! ## The counts and the two blocks (R107, R61) -/

/-- The two counts share the ring's blocks out. -/
theorem State.RingOk.writable_add_readable {s : State} (h : s.RingOk) : s.writable + s.readable = s.cfg.numBlocks := by
  obtain ⟨-, -, hle, -⟩ := h
  exact Nat.sub_add_cancel hle

/-- The occupancy is the difference of the cursors modulo twice the ring's size. -/
theorem cursorOcc_cast {n : Nat} (hn : 0 < n) (w r : Nat) : (cursorOcc n w r : Int) = ((w : Int) - r) % (2 * n) :=
  Int.toNat_of_nonneg (Int.emod_nonneg _ (by omega))

/-- Cursors in range enclose no block exactly where they are equal. -/
theorem cursorOcc_eq_zero_iff {n w r : Nat} (hw : w < 2 * n) (hr : r < 2 * n) : cursorOcc n w r = 0 ↔ w = r := by
  rw [cursorOcc_eq hw hr]
  split <;> omega

/-- The cursor after one, as the rule writes it: the ring's cursors fit 8 bits. -/
theorem cursorNext_toNat_eq_mod {n : Nat} (hmin : 1 ≤ n) (hn : n ≤ 127) (c : BitVec 8) :
    (cursorNext n c).toNat = (c.toNat + 1) % (2 * n) := by
  have hlt := Nat.mod_lt (c.toNat + 1) (show 2 * n > 0 by omega)
  rw [cursorNext, BitVec.toNat_ofNat, Nat.mod_eq_of_lt (by omega)]

/-- The block a tick reads is not the block the producer fills. -/
theorem State.Inv.rblk_ne_wblk {s : State} (hs : s.Inv) (hspace : s.writable ≠ 0) (hocc : 1 ≤ s.occ) :
    s.rblk ≠ s.wblk := by
  intro heq
  have hwblk := hs.ring.wblk_not_readable (Nat.lt_of_sub_ne_zero hspace)
  rw [← heq, State.rblk_readable hocc] at hwblk
  cases hwblk

/-- A ring with a writable block has blocks, so the producer's block is one of them. -/
theorem State.wblk_lt_of_writable {s : State} (hspace : s.writable ≠ 0) : s.wblk < s.cfg.numBlocks :=
  Nat.mod_lt _ (Nat.zero_lt_of_lt (Nat.lt_of_sub_ne_zero hspace))

theorem tickStep_wblk {s t : State} (h : tickStep s = .next t) : t.wblk = s.wblk := by
  rw [State.wblk, State.wblk, tickStep_rbW h, tickStep_cfg h]

/-! ## The fields of the RB status word and of the RB cursor word (R108, R112) -/

theorem State.statusWord_writable (s : State) : s.statusWord.extractLsb' 0 8 = BitVec.ofNat 8 s.writable :=
  BitVec.extractLsb'_append_eq_right

theorem State.statusWord_readable (s : State) : s.statusWord.extractLsb' 8 8 = BitVec.ofNat 8 s.readable :=
  (BitVec.extractLsb'_append_eq_of_le (by decide)).trans BitVec.extractLsb'_append_eq_right

theorem State.statusWord_freed (s : State) : s.statusWord.getLsbD 16 = s.rbFreed := by
  rw [State.statusWord]
  simp only [BitVec.getLsbD_append]
  simp

theorem State.statusWord_enabled (s : State) : s.statusWord.getLsbD 17 = s.tcEn := by
  rw [State.statusWord]
  simp only [BitVec.getLsbD_append]
  simp

theorem State.statusWord_high (s : State) : s.statusWord.extractLsb' 18 14 = 0 := by
  iterate 4 refine (BitVec.extractLsb'_append_eq_of_le (by decide)).trans ?_
  exact BitVec.extractLsb'_zero

/-- With both flags clear and nothing readable, the status word is the count of writable blocks. -/
theorem State.statusWord_toNat_of_clear {s : State} (hen : s.tcEn = false) (hfreed : s.rbFreed = false) (hocc : s.occ = 0)
    (hn : s.cfg.numBlocks ≤ 127) : s.statusWord.toNat = s.cfg.numBlocks := by
  rw [State.statusWord, State.readable, State.writable, hen, hfreed, hocc, Nat.sub_zero]
  refine (BitVec.toNat_append _ _).trans ?_
  rw [BitVec.toNat_ofNat, Nat.mod_eq_of_lt (by omega)]
  exact Nat.zero_or _

theorem State.cursorWord_rbW (s : State) : s.cursorWord.extractLsb' 0 8 = s.rbW :=
  BitVec.extractLsb'_append_eq_right

theorem State.cursorWord_rbR (s : State) : s.cursorWord.extractLsb' 8 8 = s.rbR :=
  (BitVec.extractLsb'_append_eq_of_le (by decide)).trans BitVec.extractLsb'_append_eq_right

theorem State.cursorWord_rbPos (s : State) : s.cursorWord.extractLsb' 16 16 = s.rbPos := by
  iterate 2 refine (BitVec.extractLsb'_append_eq_of_le (by decide)).trans ?_
  exact BitVec.extractLsb'_eq_self

/-! ## The commands' equations (R109, R110) -/

theorem exec_rbWrite_refused {s : State} {index : BitVec 16} (sample : Word)
    (h : s.writable = 0 ∨ s.cfg.blockSize ≤ index.toNat) :
    exec (.rbWrite index sample) s = .next (s.respond .refused 0) := by
  refine congrArg Host.Outcome.next ?_
  split
  · rfl
  · next hspace => exact if_pos (h.resolve_left hspace)

theorem exec_rbCommit_full {s : State} (h : s.writable = 0) : exec .rbCommit s = .next (s.respond .refused 0) :=
  congrArg Host.Outcome.next (if_pos h)

theorem exec_rbCommit_space {s : State} (h : s.writable ≠ 0) :
    exec .rbCommit s = .next (s.advanceW.respond .ok s.advanceW.statusWord) :=
  congrArg Host.Outcome.next (if_neg h)

/-- A commit gives the consumer one more block (R110). -/
theorem State.Inv.advanceW_occ {s : State} (hs : s.Inv) (hspace : s.writable ≠ 0) : s.advanceW.occ = s.occ + 1 := by
  obtain ⟨-, hn, -⟩ := Config.ring_bounds hs.config
  obtain ⟨hw, hr, -⟩ := hs.ring
  exact cursorOcc_next_write hn hw hr (Nat.lt_of_sub_ne_zero hspace)

/-- A commit takes one block from the producer (R110). -/
theorem State.Inv.advanceW_writable {s : State} (hs : s.Inv) (hspace : s.writable ≠ 0) :
    s.advanceW.writable + 1 = s.writable := by
  have hocc := hs.advanceW_occ hspace
  rw [State.writable] at hspace
  rw [State.writable, State.writable, hocc, s.advanceW_cfg]
  omega

/-! ## The obligations -/

/-- Settles O38, from the range of the cursors and of the occupancy. -/
theorem ringCountsAddUp : Obligations.RingCountsAddUp := by
  intro s hs
  obtain ⟨hblocks, -⟩ := Config.ring_bounds hs.config
  obtain ⟨hw, hr, -⟩ := hs.ring
  have hpos : 0 < s.cfg.numBlocks := by omega
  refine ⟨hs.ring.writable_add_readable, ?_, hs.wblk_lt, Nat.mod_lt _ hpos, ?_⟩
  · rw [State.occ, cursorOcc_cast hpos]
    exact Int.emod_eq_emod_iff_emod_sub_eq_zero.mp (Int.emod_emod _ _)
  · exact (cursorOcc_eq_zero_iff hw hr).trans BitVec.toNat_inj

/-- Settles O39: within the invariant both counts fit their 8 bits. -/
theorem rbStatusAnswersStatusWord : Obligations.RbStatusAnswersStatusWord := by
  refine ⟨fun s hs => ?_, fun s => rfl, ?_, encodedAs_of_opcode .rbStatus (fun _ => rfl) (fun _ _ => rfl)⟩
  · obtain ⟨-, hn, -⟩ := Config.ring_bounds hs.config
    have hsum := hs.ring.writable_add_readable
    refine ⟨s.statusWord, rfl, ?_, ?_, s.statusWord_freed, s.statusWord_enabled, s.statusWord_high, hsum⟩
    · rw [s.statusWord_writable, BitVec.toNat_ofNat, Nat.mod_eq_of_lt (by omega)]
    · rw [s.statusWord_readable, BitVec.toNat_ofNat, Nat.mod_eq_of_lt (by omega)]
  · obtain ⟨-, hn, -⟩ := Config.ring_bounds Config.chip_wellFormed
    obtain ⟨hw, hr, -⟩ := resetMeetsInvariant.ring
    exact State.statusWord_toNat_of_clear rfl rfl ((cursorOcc_eq_zero_iff hw hr).mpr rfl) hn

/-- Settles O40: the address is one of the producer's block, and the store's laws say what a write leaves. -/
theorem rbWriteWritesProducerBlock : Obligations.RbWriteWritesProducerBlock := by
  refine ⟨fun s index sample => exec_rbWrite_refused sample, fun s index sample a hspace hindex ha => ?_,
    fun s hs => hs.rblk_ne_wblk, encodedAs_of_opcode .rbWrite (fun _ => rfl) (fun _ _ => rfl)⟩
  subst ha
  exact ⟨sampleAddress_lt (State.wblk_lt_of_writable hspace) hindex, _, exec_rbWrite_inside sample hspace hindex,
    Memory.read?_write_same _ _ _, fun b hb => Memory.read?_write_other _ _ hb⟩

/-- Settles O41: a commit moves the write cursor to its successor, which takes one block from the writable ones; no tick
moves it. -/
theorem rbCommitPublishesBlock : Obligations.RbCommitPublishesBlock := by
  refine ⟨fun s => exec_rbCommit_full, fun s hs hspace => ?_, fun s t => tickStep_wblk, fun s hs => hs.rblk_ne_wblk,
    encodedAs_of_opcode .rbCommit (fun _ => rfl) (fun _ _ => rfl)⟩
  obtain ⟨hmin, hn, -⟩ := Config.ring_bounds hs.config
  exact ⟨_, exec_rbCommit_space hspace, rfl, cursorNext_toNat_eq_mod (by omega) hn s.rbW, hs.advanceW_occ hspace,
    hs.advanceW_writable hspace⟩

/-- Settles O42: the word answered is the one of the state before the clear. -/
theorem rbAckReadsThenClears : Obligations.RbAckReadsThenClears :=
  ⟨fun _ => rfl, fun s _ h => ⟨execRbAck_rbFreed h, s.statusWord_freed⟩,
    encodedAs_of_opcode .rbAck (fun _ => rfl) (fun _ _ => rfl)⟩

/-- Settles O43, from the fields of the cursor word. -/
theorem rbCursorsAnswersCursors : Obligations.RbCursorsAnswersCursors :=
  ⟨fun s => ⟨s.cursorWord, rfl, s.cursorWord_rbW, s.cursorWord_rbR, s.cursorWord_rbPos⟩,
    encodedAs_of_opcode .rbCursors (fun _ => rfl) (fun _ _ => rfl)⟩

/-- Settles O44: each of the three commands is refused or has the one effect of its rule. -/
theorem ringCommandsWriteOnlyTheirPart : Obligations.RingCommandsWriteOnlyTheirPart := by
  refine ⟨fun s t index sample a h ha => ?_, fun s t h => ?_, fun s t h => ?_⟩
  · subst ha
    cases exec_effect h with
    | answers hi => cases hi
    | refuses => exact ⟨rfl, fun _ _ => rfl⟩
    | rbWrite => exact ⟨rfl, fun b hb => Memory.read?_write_other _ _ hb⟩
  · cases exec_effect h with
    | answers hi => cases hi
    | refuses | rbCommit => exact ⟨rfl, fun _ => rfl⟩
  · cases exec_effect h with
    | answers hi => cases hi
    | refuses | rbAck => exact ⟨rfl, fun _ => rfl⟩

end Sys2Proof.Machine
end

section
/-! SUPPORT. FIFO order (R114): the samples that are readable now, counted on from the read position across blocks in ring
order, and what every step does to their places and their words. -/

namespace Sys2Proof.Machine

/-! ## Places counted on from the read position (R107, R145) -/

/-- The block of the sample j places on from the read position. -/
def State.aheadBlock (s : State) (j : Nat) : Nat :=
  (s.rbR.toNat + (s.rbPos.toNat + j) / s.cfg.blockSize) % s.cfg.numBlocks

/-- The index in its block of the sample j places on from the read position. -/
def State.aheadIndex (s : State) (j : Nat) : Nat := (s.rbPos.toNat + j) % s.cfg.blockSize

/-- The word j places on from the read position, if it is written. -/
def State.ahead? (s : State) (j : Nat) : Option Word :=
  s.store.read? (sampleAddress s.cfg (s.aheadBlock j) (s.aheadIndex j))

/-- While ticks are left before an underrun there is a readable block (R145). -/
theorem State.occ_pos_of_ticksToUnderrun {s : State} {j : Nat} (h : j < s.ticksToUnderrun) : 1 ≤ s.occ := by
  refine Nat.pos_of_ne_zero fun h0 => ?_
  rw [State.ticksToUnderrun, h0, Nat.zero_mul, Nat.zero_sub] at h
  exact Nat.not_lt_zero j h

/-- A place that the ticks left reach is in a readable block (R61, R145). -/
theorem State.aheadBlock_readable {s : State} {j : Nat} (hsize : 1 ≤ s.cfg.blockSize) (h : j < s.ticksToUnderrun) :
    s.isReadableBlock (s.aheadBlock j) = true := by
  refine (s.isReadableBlock_iff _).mpr ⟨_, ?_, rfl⟩
  rw [State.ticksToUnderrun] at h
  exact (Nat.div_lt_iff_lt_mul hsize).mpr (by omega)

/-- The place a tick reads is place 0. -/
theorem State.RingOk.ahead?_zero {s : State} (h : s.RingOk) :
    s.ahead? 0 = s.store.read? (sampleAddress s.cfg s.rblk s.rbPos.toNat) := by
  obtain ⟨-, -, -, -, hpos⟩ := h
  rw [State.ahead?, State.aheadBlock, State.aheadIndex, Nat.add_zero, Nat.div_eq_of_lt hpos, Nat.mod_eq_of_lt hpos]
  rfl

/-! ## Places over the consumer's advance (R115) -/

/-- The consumer's advance brings every place one nearer, in its block or into the next one. -/
theorem State.Inv.advanceRead_ahead? {s : State} (hs : s.Inv) (j : Nat) : s.advanceRead.ahead? j = s.ahead? (j + 1) := by
  obtain ⟨-, hn, hmin, hmax, -⟩ := Config.ring_bounds hs.config
  obtain ⟨-, hr, -, -, hpos⟩ := hs.ring
  by_cases hend : s.rbPos.toNat + 1 = s.cfg.blockSize
  · have hnext : s.rbPos.toNat + (j + 1) = j + s.cfg.blockSize := by omega
    have hblock : ((cursorNext s.cfg.numBlocks s.rbR).toNat + j / s.cfg.blockSize) % s.cfg.numBlocks =
        (s.rbR.toNat + (j / s.cfg.blockSize + 1)) % s.cfg.numBlocks := by
      rw [Nat.add_mod, cursorNext_mod hn hr, ← Nat.add_mod, Nat.add_assoc, Nat.add_comm 1]
    simp [State.advanceRead_last hend, State.ahead?, State.aheadBlock, State.aheadIndex, hnext, hblock,
      Nat.add_div_right _ hmin]
  · have hnext : (s.rbPos + 1).toNat + j = s.rbPos.toNat + (j + 1) := by bv_omega
    simp only [State.advanceRead_inside hend, State.ahead?, State.aheadBlock, State.aheadIndex, hnext]

/-- The advance past a block's last sample frees the block (R115). -/
theorem State.Inv.advanceRead_last_occ {s : State} (hs : s.Inv) (hocc : 1 ≤ s.occ)
    (hend : s.rbPos.toNat + 1 = s.cfg.blockSize) : s.advanceRead.occ + 1 = s.occ := by
  obtain ⟨-, hn, -⟩ := Config.ring_bounds hs.config
  obtain ⟨hw, hr, -⟩ := hs.ring
  rw [State.advanceRead_last hend]
  exact cursorOcc_next_read hn hw hr hocc

/-- The consumer's advance takes one from the ticks left (R145). -/
theorem State.Inv.advanceRead_ticksToUnderrun {s : State} (hs : s.Inv) (hocc : 1 ≤ s.occ) :
    s.advanceRead.ticksToUnderrun + 1 = s.ticksToUnderrun := by
  obtain ⟨-, -, -, hmax, -⟩ := Config.ring_bounds hs.config
  obtain ⟨-, -, -, -, hpos⟩ := hs.ring
  rw [State.ticksToUnderrun, State.ticksToUnderrun]
  by_cases hend : s.rbPos.toNat + 1 = s.cfg.blockSize
  · have hpos' : s.advanceRead.rbPos.toNat = 0 := by rw [State.advanceRead_last hend]; rfl
    rw [← hs.advanceRead_last_occ hocc hend, hpos', s.advanceRead_cfg, Nat.add_mul]
    omega
  · have hle := Nat.le_mul_of_pos_left s.cfg.blockSize hocc
    have hpos' : (s.rbPos + 1).toNat = s.rbPos.toNat + 1 := by bv_omega
    rw [State.advanceRead_inside hend]
    show s.occ * s.cfg.blockSize - (s.rbPos + 1).toNat + 1 = s.occ * s.cfg.blockSize - s.rbPos.toNat
    omega

/-! ## Places over a step of either agent (R62, R114) -/

/-- No command but TC_ENABLE writes the tick enable (R34). -/
theorem exec_tcEn {i : Instr} {s t : State} (h : exec i s = .next t) (hi : ∀ en, i ≠ .tcEnable en) :
    t.tcEn = s.tcEn := by
  cases exec_effect h
  case tcEnable en _ => exact absurd rfl (hi en)
  all_goals rfl

/-- No command takes from the occupancy: a commit adds a block, and no other command moves a cursor (R107, R110). -/
theorem State.Inv.exec_occ_le {i : Instr} {s t : State} (hs : s.Inv) (h : exec i s = .next t) : s.occ ≤ t.occ := by
  cases exec_effect h
  case rbCommit hspace => exact (Nat.le_succ _).trans (hs.advanceW_occ hspace).ge
  all_goals exact le_rfl

/-- The tick is enabled, and the sample j places on from the read position is readable and written as v. -/
def State.PlaysAfter (s : State) (j : Nat) (v : Word) : Prop :=
  s.tcEn = true ∧ j < s.ticksToUnderrun ∧ s.ahead? j = some v

/-- A command other than TC_ENABLE leaves what is to play: it takes nothing from the readable blocks and does not write
them. -/
theorem State.PlaysAfter.after_exec {s t : State} {i : Instr} {j : Nat} {v : Word} (hplays : s.PlaysAfter j v) (hs : s.Inv)
    (h : exec i s = .next t) (hi : ∀ en, i ≠ .tcEnable en) : t.PlaysAfter j v := by
  obtain ⟨hen, hj, hword⟩ := hplays
  obtain ⟨-, -, hsize, -⟩ := Config.ring_bounds hs.config
  obtain ⟨hrbR, hrbPos, -, -⟩ := exec_consumer_frame h
  have hcfg := exec_cfg h
  have hmono := Nat.mul_le_mul_right s.cfg.blockSize (hs.exec_occ_le h)
  refine ⟨(exec_tcEn h hi).trans hen, ?_, ?_⟩
  · rw [State.ticksToUnderrun] at hj ⊢
    rw [hcfg, hrbPos]
    omega
  · rw [State.ahead?, State.aheadBlock, State.aheadIndex, hcfg, hrbR, hrbPos]
    exact (exec_readable_word hs.ring h (State.aheadBlock_readable hsize hj) (Nat.mod_lt _ hsize)).trans hword

/-- An enabled tick with a readable block puts the word at the read position out, or a draw (R115). -/
theorem State.Inv.tickStep_consumes {s : State} (hs : s.Inv) (hen : s.tcEn = true) (hocc : 1 ≤ s.occ) :
    tickStep s = .next (s.afterSample ((s.ahead? 0).getD (Config.freeSample s.draws))
      (if s.ahead? 0 = none then 1 else 0)) := by
  rw [hs.ring.ahead?_zero]
  obtain ⟨hidle | hidle, -⟩ | ⟨-, -, habsent, -⟩ | ⟨-, -, -, heq⟩ := tickStep_cases s
  · exact absurd (hidle.symm.trans hen) Bool.false_ne_true
  · omega
  · exact absurd hs.readAddress_lt habsent
  · exact heq

/-- A tick brings what is to play one place nearer. -/
theorem State.PlaysAfter.after_tick {s t : State} {j : Nat} {v : Word} (hplays : s.PlaysAfter (j + 1) v) (hs : s.Inv)
    (h : tickStep s = .next t) : t.PlaysAfter j v := by
  obtain ⟨hen, hj, hword⟩ := hplays
  have hocc := State.occ_pos_of_ticksToUnderrun hj
  obtain rfl := Host.Outcome.next.inj ((hs.tickStep_consumes hen hocc).symm.trans h)
  have hread := (hs.takeDraws (if s.ahead? 0 = none then 1 else 0)).setDac ((s.ahead? 0).getD (Config.freeSample s.draws))
  have hticks : (s.afterSample _ _).ticksToUnderrun + 1 = s.ticksToUnderrun := hread.advanceRead_ticksToUnderrun hocc
  exact ⟨hen, by omega, (hread.advanceRead_ahead? j).trans hword⟩

/-- The tick that comes when v is at the read position outputs it (R115). -/
theorem State.PlaysAfter.tick_dac {s : State} {v : Word} (hplays : s.PlaysAfter 0 v) (hs : s.Inv) :
    ∃ t, tickStep s = .next t ∧ t.dacL = sampleLeft v ∧ t.dacR = sampleRight v := by
  obtain ⟨hen, hj, hword⟩ := hplays
  refine ⟨_, hs.tickStep_consumes hen (State.occ_pos_of_ticksToUnderrun hj), ?_⟩
  rw [hword]
  exact ⟨rfl, rfl⟩

/-- A transaction that is no TC_ENABLE decodes to another command. -/
theorem AgentStep.ne_tcEnable_of_decode {cmd data : Word} {i : Instr} (ha : (AgentStep.host cmd data).isTcEnable = false)
    (hdecode : decode cmd data = .ok i) (en : Bool) : i ≠ .tcEnable en := by
  rintro rfl
  simp [AgentStep.isTcEnable, AgentStep.command?, hdecode] at ha

/-- Every step but a TC_ENABLE takes what is to play one place nearer if it is a tick, and leaves it where it is if not. -/
theorem State.PlaysAfter.after_step {s t : State} {a : AgentStep} {rest : List AgentStep} {j : Nat} {v : Word}
    (hplays : s.PlaysAfter (j + if a.isTick then 1 else 0) v) (hs : s.Inv) (hschedule : s.schedule = a :: rest)
    (ha : a.isTcEnable = false) (h : step s = .next t) : t.PlaysAfter j v := by
  cases a with
  | tick =>
    have htick : tickStep { s with schedule := rest } = .next t := (step_tick hschedule).symm.trans h
    exact State.PlaysAfter.after_tick (s := { s with schedule := rest }) hplays { hs with } htick
  | host cmd data =>
    obtain ⟨i, hdecode, heq⟩ | ⟨e, -, heq⟩ := transact_cases cmd data { s with schedule := rest }
    all_goals rw [← step_host hschedule, h] at heq
    · exact State.PlaysAfter.after_exec (s := { s with schedule := rest }) hplays { hs with } heq.symm
        (AgentStep.ne_tcEnable_of_decode ha hdecode)
    · obtain rfl := Host.Outcome.next.inj heq
      exact hplays

/-- A schedule that ends in a tick outputs the word that is to play after its earlier ticks, whatever commands but TC_ENABLE
stand between them. -/
theorem State.PlaysAfter.runAll_dac {s : State} {before : List AgentStep} {v : Word} (hs : s.Inv)
    (hschedule : s.schedule = before ++ [.tick]) (hcommands : ∀ a ∈ before, a.isTcEnable = false)
    (hplays : s.PlaysAfter (before.countP (·.isTick)) v) :
    ∃ t, runAll s = .next t ∧ t.dacL = sampleLeft v ∧ t.dacR = sampleRight v := by
  induction before generalizing s with
  | nil =>
    obtain ⟨t, htick, hdac⟩ := State.PlaysAfter.tick_dac (s := { s with schedule := [] }) hplays { hs with }
    have hstep : step s = .next t := (step_tick hschedule).trans htick
    have hnil : t.schedule = [] := by rw [step_schedule hstep, hschedule]; rfl
    exact ⟨t, (runAll_cons hschedule hstep).trans (runAll_nil hnil), hdac⟩
  | cons a rest ih =>
    rw [List.forall_mem_cons] at hcommands
    rw [List.countP_cons] at hplays
    obtain ⟨hhead, htail⟩ := hcommands
    obtain ⟨t, hstep⟩ := noStepStopsWithinInvariant s hs
    have hrest : t.schedule = rest ++ [.tick] := by rw [step_schedule hstep, hschedule]; rfl
    obtain ⟨u, hrun, hdac⟩ :=
      ih (stepKeepsInvariant s t hs hstep) hrest htail (hplays.after_step hs hschedule hhead hstep)
    exact ⟨u, (runAll_cons hschedule hstep).trans hrun, hdac⟩

/-- Settles O53: each step before the last tick keeps the word and brings it nearer by its ticks, so the last tick finds it
at the read position. -/
theorem readableSamplesPlayInOrder : Obligations.ReadableSamplesPlayInOrder := by
  intro s before j v hs hen hschedule hcommands hcount hj hword
  subst hcount
  exact State.PlaysAfter.runAll_dac hs hschedule hcommands ⟨hen, hj, hword⟩

end Sys2Proof.Machine
end

section
/-! SUPPORT. Timing control, the D/A registers and the TICK step (R115 to R123): each command's equations and the word
DAC_READ answers, the tick that finds a readable block and the tick that finds none, and that no step reads the value of a
configured period (R118). -/

namespace Sys2Proof.Machine

/-! ## The timing commands (R120, R121) -/

theorem exec_tcSetPeriod_zero (s : State) : exec (.tcSetPeriod 0) s = .next (s.respond .refused 0) :=
  congrArg Host.Outcome.next (if_pos rfl)

/-- The tick is not enabled while no period is configured (R121). -/
theorem exec_tcEnable_unconfigured {s : State} (h : s.tcPeriod = 0) :
    exec (.tcEnable true) s = .next (s.respond .refused 0) :=
  congrArg Host.Outcome.next (if_pos ⟨rfl, h⟩)

/-! ## The DAC word (R52, R123) -/

theorem sampleLeft_sampleWord (l r : Channel) : sampleLeft (sampleWord l r) = l :=
  (BitVec.extractLsb'_append_eq_of_le (by decide)).trans BitVec.extractLsb'_eq_self

theorem sampleRight_sampleWord (l r : Channel) : sampleRight (sampleWord l r) = r :=
  BitVec.extractLsb'_append_eq_right

/-! ## The TICK step (R115, R116) -/

theorem tickStep_of_underrun {s : State} (h : s.occ = 0) : tickStep s = .next s := by
  obtain ⟨-, heq⟩ | ⟨-, hocc, -⟩ | ⟨-, hocc, -⟩ := tickStep_cases s
  · exact heq
  all_goals omega

/-- An enabled tick with a readable block, at an address of the store, puts out the word there or a draw. -/
theorem tickStep_of_readable {s : State} (hen : s.tcEn = true) (hocc : 1 ≤ s.occ)
    (haddr : sampleAddress s.cfg s.rblk s.rbPos.toNat < storeSize s.cfg) :
    tickStep s = .next (s.afterSample
      ((s.store.read? (sampleAddress s.cfg s.rblk s.rbPos.toNat)).getD (Config.freeSample s.draws))
      (if s.store.read? (sampleAddress s.cfg s.rblk s.rbPos.toNat) = none then 1 else 0)) := by
  obtain ⟨hidle | hidle, -⟩ | ⟨-, -, habsent, -⟩ | ⟨-, -, -, heq⟩ := tickStep_cases s
  · exact absurd (hidle.symm.trans hen) Bool.false_ne_true
  · omega
  · exact absurd haddr habsent
  · exact heq

/-- The position after a sample: the block's last one frees the block, any other moves the position by one (R115). -/
theorem State.Inv.advanceRead_position {s : State} (hs : s.Inv) (hocc : 1 ≤ s.occ) :
    if s.rbPos.toNat + 1 = s.cfg.blockSize then
      s.advanceRead.rbPos = 0 ∧ s.advanceRead.rbR.toNat = (s.rbR.toNat + 1) % (2 * s.cfg.numBlocks) ∧
        s.advanceRead.rbFreed = true ∧ s.advanceRead.occ + 1 = s.occ
    else s.advanceRead.rbPos.toNat = s.rbPos.toNat + 1 ∧ s.advanceRead.rbR = s.rbR ∧
      s.advanceRead.rbFreed = s.rbFreed ∧ s.advanceRead.occ = s.occ := by
  obtain ⟨hmin, hn, -, hmax, -⟩ := Config.ring_bounds hs.config
  obtain ⟨-, -, -, -, hpos⟩ := hs.ring
  split
  · next hend =>
    have hfreed := hs.advanceRead_last_occ hocc hend
    rw [State.advanceRead_last hend] at hfreed ⊢
    exact ⟨rfl, cursorNext_toNat_eq_mod (by omega) hn s.rbR, rfl, hfreed⟩
  · next hinside =>
    have hpos' : (s.rbPos + 1).toNat = s.rbPos.toNat + 1 := by bv_omega
    rw [State.advanceRead_inside hinside]
    exact ⟨hpos', rfl, rfl, rfl⟩

/-! ## The value of a configured period is not read (R118) -/

/-- The outcome is the state t but for its tick period, which is configured in both. -/
def DiffersInPeriod (t : State) (outcome : Host.Outcome State Fault Refusal) : Prop :=
  t.tcPeriod ≠ 0 ∧ ∃ p, p ≠ 0 ∧ outcome = .next (t.setPeriod p)

/-- Running on a glide channel commutes with a change of the period where what runs does. -/
theorem State.withGlide_setPeriod {s : State} {ch : ChannelNo} {p : Word} {k k' : Glide → State}
    (hk : ∀ g, k' g = (k g).setPeriod p) : (s.setPeriod p).withGlide ch k' = (s.withGlide ch k).setPeriod p := by
  obtain rfl : k' = fun g => (k g).setPeriod p := funext hk
  unfold State.withGlide
  rw [apply_ite (State.setPeriod · p)]
  refine if_congr Iff.rfl ?_ rfl
  rw [s.setPeriod_glide]
  cases s.glide[ch.toNat]? <;> rfl

/-- Running on an LFO channel commutes with a change of the period where what runs does. -/
theorem State.withLfo_setPeriod {s : State} {ch : ChannelNo} {p : Word} {k k' : Lfo → State}
    (hk : ∀ l, k' l = (k l).setPeriod p) : (s.setPeriod p).withLfo ch k' = (s.withLfo ch k).setPeriod p := by
  obtain rfl : k' = fun l => (k l).setPeriod p := funext hk
  unfold State.withLfo
  split <;> rfl

/-- The commands that write or read the tick period or its being configured (R120 to R122). -/
def usesPeriod : Instr → Bool
  | .tcSetPeriod _ | .tcEnable _ | .tcReadPeriod => true
  | _ => false

/-- Every other command commutes with a change of the period. -/
theorem exec_setPeriod {i : Instr} {s t : State} (h : exec i s = .next t) (hi : usesPeriod i = false) (p : Word) :
    exec i (s.setPeriod p) = .next (t.setPeriod p) := by
  cases i <;> obtain rfl := Host.Outcome.next.inj h
  case tcSetPeriod | tcEnable | tcReadPeriod => cases hi
  case nop | rbStatus | rbAck | rbCursors | dacRead => rfl
  case glideInit | glideUpdate | glideRead | glideStatus =>
    exact congrArg Host.Outcome.next (State.withGlide_setPeriod fun _ => rfl)
  case lfoInit =>
    refine congrArg Host.Outcome.next (State.withLfo_setPeriod fun _ => ?_)
    split <;> rfl
  case lfoUpdate | lfoPhase | lfoOut => exact congrArg Host.Outcome.next (State.withLfo_setPeriod fun _ => rfl)
  case rbWrite =>
    refine congrArg Host.Outcome.next ?_
    rw [apply_ite (State.setPeriod · p), apply_ite (State.setPeriod · p)]
    rfl
  case rbCommit =>
    refine congrArg Host.Outcome.next ?_
    rw [apply_ite (State.setPeriod · p)]
    rfl

/-- A configured period stays configured: period 0 is refused (R120). -/
theorem exec_tcPeriod_ne_zero {i : Instr} {s t : State} (h : exec i s = .next t) (hs : s.tcPeriod ≠ 0) :
    t.tcPeriod ≠ 0 := by
  cases exec_effect h
  case tcSetPeriod hperiod => exact hperiod
  all_goals exact hs

/-- A command reads of a configured period that it is configured, and TC_READ_PERIOD alone reads more. -/
theorem exec_differsInPeriod {i : Instr} {s t : State} {p : Word} (h : exec i s = .next t) (hs : s.tcPeriod ≠ 0)
    (hp : p ≠ 0) (hi : i ≠ .tcReadPeriod) : DiffersInPeriod t (exec i (s.setPeriod p)) := by
  refine ⟨exec_tcPeriod_ne_zero h hs, ?_⟩
  cases huses : usesPeriod i with
  | false => exact ⟨p, hp, exec_setPeriod h huses p⟩
  | true =>
    cases i
    case tcReadPeriod => exact absurd rfl hi
    case tcSetPeriod period =>
      by_cases hzero : period = 0
      · subst hzero
        obtain rfl := Host.Outcome.next.inj ((exec_tcSetPeriod_zero s).symm.trans h)
        exact ⟨p, hp, exec_tcSetPeriod_zero _⟩
      · obtain rfl := Host.Outcome.next.inj ((exec_tcSetPeriod_ne_zero s hzero).symm.trans h)
        exact ⟨period, hzero, exec_tcSetPeriod_ne_zero _ hzero⟩
    case tcEnable en =>
      obtain rfl := Host.Outcome.next.inj ((exec_tcEnable_allowed fun hen => hs hen.2).symm.trans h)
      exact ⟨p, hp, exec_tcEnable_allowed (s := s.setPeriod p) fun hen => hp hen.2⟩
    all_goals cases huses

theorem transact_differsInPeriod {cmd data : Word} {s t : State} {p : Word} (h : transact cmd data s = .next t)
    (hs : s.tcPeriod ≠ 0) (hp : p ≠ 0) (hi : decode cmd data ≠ .ok .tcReadPeriod) :
    DiffersInPeriod t (transact cmd data (s.setPeriod p)) := by
  obtain ⟨i, hdecode, heq⟩ | ⟨e, hdecode, heq⟩ := transact_cases cmd data s
  · rw [transact_of_decode hdecode]
    exact exec_differsInPeriod (heq.symm.trans h) hs hp fun hread => hi (hread ▸ hdecode)
  · obtain rfl := Host.Outcome.next.inj (heq.symm.trans h)
    refine ⟨hs, p, hp, transact_of_not_decodes (fun i hok => ?_) _⟩
    cases hdecode.symm.trans hok

/-- The TICK step commutes with a change of the period. -/
theorem tickStep_setPeriod {s t : State} (h : tickStep s = .next t) (p : Word) :
    tickStep (s.setPeriod p) = .next (t.setPeriod p) := by
  obtain ⟨hidle, heq⟩ | ⟨-, -, -, heq⟩ | ⟨hen, hocc, haddr, heq⟩ := tickStep_cases s
  · obtain rfl := Host.Outcome.next.inj (heq.symm.trans h)
    obtain hdisabled | hunderrun := hidle
    · exact tickStep_of_disabled (s := s.setPeriod p) (ne_true_of_eq_false hdisabled)
    · exact tickStep_of_underrun (s := s.setPeriod p) hunderrun
  · cases heq.symm.trans h
  · obtain rfl := Host.Outcome.next.inj (heq.symm.trans h)
    exact tickStep_of_readable (s := s.setPeriod p) hen hocc haddr

theorem tickStep_tcPeriod {s t : State} (h : tickStep s = .next t) : t.tcPeriod = s.tcPeriod := by
  obtain rfl | ⟨v, n, rfl⟩ := tickStep_next_cases h <;> rfl

/-! ## The obligations -/

/-- Settles O49: within the invariant the address is one of the store's, and the advance after the sample is the ring's. -/
theorem tickConsumesOneSample : Obligations.TickConsumesOneSample := by
  intro s a v hs hen hocc ha hv
  subst ha hv
  exact ⟨_, tickStep_of_readable hen hocc hs.readAddress_lt, rfl, rfl, rfl,
    ((hs.takeDraws _).setDac _).advanceRead_position hocc⟩

/-- Settles O50: no enabled tick with a readable block starts from occupancy 0. -/
theorem underrunChangesNothing : Obligations.UnderrunChangesNothing := fun _ => tickStep_of_underrun

/-- Settles O51: a tick leaves the state, or puts one sample out. -/
theorem tickWritesReadSideOnly : Obligations.TickWritesReadSideOnly := by
  intro s t h
  refine ⟨?_, fun a => by rw [tickStep_store h]⟩
  obtain rfl | ⟨v, n, rfl⟩ := tickStep_next_cases h <;> rfl

/-- Settles O54: period 0 is refused and any other stored. -/
theorem tcSetPeriodStoresPeriod : Obligations.TcSetPeriodStoresPeriod :=
  ⟨exec_tcSetPeriod_zero, fun s _ => exec_tcSetPeriod_ne_zero s,
    encodedAs_of_opcode .tcSetPeriod (fun _ => rfl) (fun _ _ => rfl)⟩

/-- Settles O55: an enable is refused exactly where no period is configured. -/
theorem tcEnableStartsOrStopsTick : Obligations.TcEnableStartsOrStopsTick := by
  refine ⟨fun s => exec_tcEnable_unconfigured, fun s en h => exec_tcEnable_allowed ?_,
    encodedAs_of_opcode .tcEnable (fun _ => rfl) (fun _ _ => rfl)⟩
  rintro ⟨rfl, hzero⟩
  exact h.resolve_left Bool.noConfusion hzero

/-- Settles O56: the period register is read as it is. -/
theorem tcReadPeriodAnswersPeriod : Obligations.TcReadPeriodAnswersPeriod :=
  ⟨fun _ => rfl, encodedAs_of_opcode .tcReadPeriod (fun _ => rfl) (fun _ _ => rfl)⟩

/-- Settles O57: the DAC word's halves are the two registers. -/
theorem dacReadAnswersDac : Obligations.DacReadAnswersDac :=
  ⟨fun s => ⟨s.dacWord, rfl, sampleLeft_sampleWord s.dacL s.dacR, sampleRight_sampleWord s.dacL s.dacR⟩,
    encodedAs_of_opcode .dacRead (fun _ => rfl) (fun _ _ => rfl)⟩

/-- Settles O59: each of the two commands is refused or has the one effect of its rule. -/
theorem timingCommandsWriteOnlyTheirRegister : Obligations.TimingCommandsWriteOnlyTheirRegister := by
  refine ⟨fun s t period h => ?_, fun s t en h => ?_⟩
  · cases exec_effect h with
    | answers hi => cases hi
    | refuses | tcSetPeriod => exact ⟨rfl, fun _ => rfl⟩
  · cases exec_effect h with
    | answers hi => cases hi
    | refuses | tcEnable => exact ⟨rfl, fun _ => rfl⟩

/-- Settles O60: a step is nothing, a transaction or a tick, and none of them reads more of a configured period than that it
is configured. -/
theorem periodValueIsNotObservable : Obligations.PeriodValueIsNotObservable := by
  intro s t p hs hp h hread
  show DiffersInPeriod t (step (s.setPeriod p))
  cases hschedule : s.schedule with
  | nil =>
    obtain rfl := Host.Outcome.next.inj ((step_nil hschedule).symm.trans h)
    exact ⟨hs, p, hp, step_nil (s := s.setPeriod p) hschedule⟩
  | cons a rest =>
    cases a with
    | tick =>
      have htick := (step_tick hschedule).symm.trans h
      rw [step_tick (s := s.setPeriod p) hschedule]
      exact ⟨tickStep_tcPeriod htick ▸ hs, p, hp, tickStep_setPeriod htick p⟩
    | host cmd data =>
      have hcommand := hread (.host cmd data) (by rw [hschedule]; rfl)
      have htransact := (step_host hschedule).symm.trans h
      rw [step_host (s := s.setPeriod p) hschedule]
      refine transact_differsInPeriod (s := { s with schedule := rest }) htransact hs hp fun hdecode => hcommand ?_
      rw [AgentStep.command?, hdecode]

end Sys2Proof.Machine
end

section
/-! SUPPORT. The command port's NOP (R124): its effect, and the proof that settles its statement. -/

namespace Sys2Proof.Machine

/-- R124: NOP's one effect is its response. -/
theorem exec_nop (s : State) : exec .nop s = .next (s.respond .ok 0) := rfl

/-- Settles O58: NOP only responds, and its row of the table is OPC 0 with the must-be-zero field CMD[23:0] and no operand
check. -/
theorem nopDoesNothing : Obligations.NopDoesNothing :=
  ⟨exec_nop, encodedAs_of_opcode .nop (fun _ => rfl) (fun _ _ => rfl)⟩

end Sys2Proof.Machine
end


section
/-! SUPPORT. When an operand value is outside its range (R128): what each check of `Instr.wellFormed` says where it
fails, and the proof that such a command is refused in every state. -/

namespace Sys2Proof.Machine

/-! ## The operand checks where they fail -/

theorem glideChannelOk_eq_false_iff {c : Config} {ch : ChannelNo} :
    glideChannelOk c ch = false ↔ c.numGlide ≤ ch.toNat :=
  decide_eq_false_iff_not.trans Nat.not_lt

theorem lfoChannelOk_eq_false_iff {ch : ChannelNo} : lfoChannelOk ch = false ↔ 3 ≤ ch.toNat :=
  decide_eq_false_iff_not.trans Nat.not_lt

theorem startPhaseOk_eq_false_iff {startPhase : Word} : startPhaseOk startPhase = false ↔ 2 ^ 31 ≤ startPhase.toNat :=
  decide_eq_false_iff_not.trans Nat.not_lt

theorem sampleIndexOk_eq_false_iff {c : Config} {index : BitVec 16} :
    sampleIndexOk c index = false ↔ c.blockSize ≤ index.toNat :=
  decide_eq_false_iff_not.trans Nat.not_lt

theorem periodOk_eq_false_iff {period : Word} : periodOk period = false ↔ period = 0 :=
  decide_eq_false_iff_not.trans not_not

/-! ## The obligation -/

/-- Settles O15: the operand check that fails is the one whose refusal the command's own equation states. LFO_INIT alone
has two checks, and either one refuses it. -/
theorem outOfRangeOperandsAreRefused : Obligations.OutOfRangeOperandsAreRefused := by
  intro i s h
  cases i with
  | glideInit ch rate target => exact exec_glideInit_absent (glideChannelOk_eq_false_iff.mp h) rate target
  | glideUpdate ch => exact exec_glideUpdate_absent (glideChannelOk_eq_false_iff.mp h)
  | glideRead ch => exact exec_glideRead_absent (glideChannelOk_eq_false_iff.mp h)
  | glideStatus ch => exact exec_glideStatus_absent (glideChannelOk_eq_false_iff.mp h)
  | lfoInit ch rate startPhase =>
    obtain hch | hphase := Bool.and_eq_false_iff.mp h
    · exact exec_lfoInit_absent (lfoChannelOk_eq_false_iff.mp hch) rate startPhase
    · exact exec_lfoInit_phase_refused (startPhaseOk_eq_false_iff.mp hphase) s ch rate
  | lfoUpdate ch rate shape abs => exact exec_lfoUpdate_absent (lfoChannelOk_eq_false_iff.mp h) rate shape abs
  | lfoPhase ch => exact exec_lfoPhase_absent (lfoChannelOk_eq_false_iff.mp h)
  | lfoOut ch => exact exec_lfoOut_absent (lfoChannelOk_eq_false_iff.mp h)
  | rbWrite index sample => exact exec_rbWrite_refused sample (.inr (sampleIndexOk_eq_false_iff.mp h))
  | tcSetPeriod period =>
    obtain rfl := periodOk_eq_false_iff.mp h
    exact exec_tcSetPeriod_zero s
  | nop | rbStatus | rbCommit | rbAck | rbCursors | tcEnable _ | tcReadPeriod | dacRead => cases h

end Sys2Proof.Machine
end

section
/-! SUPPORT. R149: a glide update and an LFO update read and write disjoint parts of the block, so each has the same effect
before and after the other. -/

namespace Sys2Proof.Machine

/-! ## Running on a channel of a state that agrees in what is read -/

/-- A glide command does on `u` what it does on `s`, up to `f`, when the two agree in the channels and what runs on a channel
agrees up to `f`. -/
theorem State.withGlide_map {s u : State} {ch : ChannelNo} {k k' : Glide → State} (f : State → State)
    (hcfg : u.cfg = s.cfg) (hglide : u.glide = s.glide) (hrefuse : u.refuse = f s.refuse)
    (hk : ∀ g, k' g = f (k g)) : u.withGlide ch k' = f (s.withGlide ch k) := by
  rw [State.withGlide, State.withGlide, hcfg, hglide]
  split
  · cases s.glide[ch.toNat]? with
    | none => exact hrefuse
    | some g => exact hk g
  · exact hrefuse

/-- An LFO command does on `u` what it does on `s`, up to `f`, when the two agree in the channels and what runs on a channel
agrees up to `f`. -/
theorem State.withLfo_map {s u : State} {ch : ChannelNo} {k k' : Lfo → State} (f : State → State)
    (hlfo : u.lfo = s.lfo) (hrefuse : u.refuse = f s.refuse) (hk : ∀ l, k' l = f (k l)) :
    u.withLfo ch k' = f (s.withLfo ch k) := by
  rw [State.withLfo, State.withLfo, hlfo]
  split
  · exact hk _
  · exact hrefuse

/-! ## The two updates (R93, R104) -/

/-- What GLIDE_UPDATE does is a function of the parameters and the glide channels: it does the same to every state that
agrees in them, and writes the channels and the response alone. -/
theorem exec_glideUpdate_of_agrees {s t u : State} {ch : ChannelNo} (h : exec (.glideUpdate ch) s = .next t)
    (hcfg : u.cfg = s.cfg) (hglide : u.glide = s.glide) :
    exec (.glideUpdate ch) u = .next { u with glide := t.glide, response := t.response } := by
  obtain rfl := Host.Outcome.next.inj h
  refine congrArg Host.Outcome.next
    (State.withGlide_map (fun t => { u with glide := t.glide, response := t.response }) hcfg hglide ?_ fun g => ?_)
  · rw [s.refuse_eq, s.respond_glide, ← hglide]
    rfl
  · rw [State.respondOk_eq, State.respondOk_eq, State.respond_glide, State.setGlide_glide, ← hglide]
    rfl

/-- What LFO_UPDATE does is a function of the parameters, the LFO channels and the count of draws: it does the same to every
state that agrees in them, and writes the channels, the count of draws (log entry 6) and the response alone. -/
theorem exec_lfoUpdate_of_agrees {s t u : State} {ch : ChannelNo} {rate : Rate} {shape : Shape} {abs : Bool}
    (h : exec (.lfoUpdate ch rate shape abs) s = .next t) (hcfg : u.cfg = s.cfg) (hlfo : u.lfo = s.lfo)
    (hdraws : u.draws = s.draws) :
    exec (.lfoUpdate ch rate shape abs) u =
      .next { u with lfo := t.lfo, draws := t.draws, response := t.response } := by
  obtain rfl := Host.Outcome.next.inj h
  refine congrArg Host.Outcome.next
    (State.withLfo_map (fun t => { u with lfo := t.lfo, draws := t.draws, response := t.response }) hlfo ?_ fun l => ?_)
  · rw [s.refuse_eq, s.respond_lfo, s.respond_draws, ← hlfo, ← hdraws]
    rfl
  · simp only [State.respondOk_eq, State.respond_lfo, State.respond_draws, State.takeDraws_lfo, State.takeDraws_draws,
      State.setLfo_lfo, State.setLfo_draws, ← hlfo, ← hdraws, ← hcfg]
    rfl

/-- Settles O37: each update leaves what the other reads, so it does the same after the other as before it. -/
theorem glideAndLfoUpdatesCommute : Obligations.GlideAndLfoUpdatesCommute := by
  intro s a b a' b' c k rate shape abs hglide hglideLfo hlfo hlfoGlide
  have ha : a = { s with glide := a.glide, response := a.response } :=
    Host.Outcome.next.inj (hglide.symm.trans (exec_glideUpdate_of_agrees hglide rfl rfl))
  have ha' : a' = { s with lfo := a'.lfo, draws := a'.draws, response := a'.response } :=
    Host.Outcome.next.inj (hlfo.symm.trans (exec_lfoUpdate_of_agrees hlfo rfl rfl rfl))
  have hb : b = { a with lfo := a'.lfo, draws := a'.draws, response := a'.response } :=
    Host.Outcome.next.inj (hglideLfo.symm.trans
      (exec_lfoUpdate_of_agrees hlfo (by rw [ha]) (by rw [ha]) (by rw [ha])))
  have hb' : b' = { a' with glide := a.glide, response := a.response } :=
    Host.Outcome.next.inj (hlfoGlide.symm.trans
      (exec_glideUpdate_of_agrees hglide (by rw [ha']) (by rw [ha'])))
  refine ⟨?_, by rw [hb], by rw [hb']⟩
  rw [hb', hb, ha, ha']

end Sys2Proof.Machine
end

section
/-! SUPPORT. Runs (R152): a step does not read the steps that come after it, so ticks put behind a schedule change nothing of
its run; a run within the invariant never stops, keeps the invariant, and ends with a response. -/

namespace Sys2Proof.Machine

/-! ## A step does not read the schedule behind it -/

/-- The state with other steps to come. -/
def State.setSchedule (s : State) (steps : List AgentStep) : State := { s with schedule := steps }

theorem exec_setSchedule {i : Instr} {s t : State} (h : exec i s = .next t) (steps : List AgentStep) :
    exec i (s.setSchedule steps) = .next (t.setSchedule steps) := by
  cases i <;> obtain rfl := Host.Outcome.next.inj h
  case nop | rbStatus | rbAck | rbCursors | tcReadPeriod | dacRead => rfl
  case glideInit | glideUpdate | glideRead | glideStatus =>
    exact congrArg Host.Outcome.next (State.withGlide_map (·.setSchedule steps) rfl rfl rfl fun _ => rfl)
  case lfoInit =>
    refine congrArg Host.Outcome.next (State.withLfo_map (·.setSchedule steps) rfl rfl fun _ => ?_)
    split <;> rfl
  case lfoUpdate | lfoPhase | lfoOut =>
    exact congrArg Host.Outcome.next (State.withLfo_map (·.setSchedule steps) rfl rfl fun _ => rfl)
  case rbWrite =>
    refine congrArg Host.Outcome.next ?_
    rw [apply_ite (State.setSchedule · steps), apply_ite (State.setSchedule · steps)]
    rfl
  case rbCommit | tcSetPeriod | tcEnable =>
    refine congrArg Host.Outcome.next ?_
    rw [apply_ite (State.setSchedule · steps)]
    rfl

theorem transact_setSchedule {cmd data : Word} {s t : State} (h : transact cmd data s = .next t)
    (steps : List AgentStep) : transact cmd data (s.setSchedule steps) = .next (t.setSchedule steps) := by
  obtain ⟨i, hdecode, heq⟩ | ⟨e, hdecode, heq⟩ := transact_cases cmd data s
  · rw [transact_of_decode hdecode]
    exact exec_setSchedule (heq.symm.trans h) steps
  · obtain rfl := Host.Outcome.next.inj (heq.symm.trans h)
    exact transact_of_not_decodes (fun i hok => by cases hdecode.symm.trans hok) _

theorem tickStep_setSchedule {s t : State} (h : tickStep s = .next t) (steps : List AgentStep) :
    tickStep (s.setSchedule steps) = .next (t.setSchedule steps) := by
  obtain ⟨hidle, heq⟩ | ⟨-, -, -, heq⟩ | ⟨hen, hocc, haddr, heq⟩ := tickStep_cases s
  · obtain rfl := Host.Outcome.next.inj (heq.symm.trans h)
    obtain hdisabled | hunderrun := hidle
    · exact tickStep_of_disabled (s := s.setSchedule steps) (ne_true_of_eq_false hdisabled)
    · exact tickStep_of_underrun (s := s.setSchedule steps) hunderrun
  · cases heq.symm.trans h
  · obtain rfl := Host.Outcome.next.inj (heq.symm.trans h)
    exact tickStep_of_readable (s := s.setSchedule steps) hen hocc haddr

/-- A step that takes the head of the schedule does the same whatever stands behind the schedule. -/
theorem step_append {s t : State} (h : step s = .next t) (hschedule : s.schedule ≠ []) (steps : List AgentStep) :
    step (s.setSchedule (s.schedule ++ steps)) = .next (t.setSchedule (t.schedule ++ steps)) := by
  rw [step_schedule h]
  obtain ⟨hnil, -⟩ | ⟨cmd, data, rest, hcons, heq⟩ | ⟨rest, hcons, heq⟩ := step_cases s
  · exact absurd hnil hschedule
  all_goals rw [hcons, List.tail_cons]
  · exact (step_host rfl).trans (transact_setSchedule (heq.symm.trans h) (rest ++ steps))
  · exact (step_tick rfl).trans (tickStep_setSchedule (heq.symm.trans h) (rest ++ steps))

/-! ## Any number of steps -/

/-- A run of one more step takes a step and goes on. -/
theorem core_run_succ_cases {s t : State} {n : Nat} (h : Sys2Proof.core.run (n + 1) s = .next t) :
    ∃ u, step s = .next u ∧ Sys2Proof.core.run n u = .next t := by
  simp only [Host.Core.run] at h
  split at h
  · next u hstep => exact ⟨u, hstep, h⟩
  · cases h
  · cases h

/-- Within the invariant any number of steps completes, and keeps it. -/
theorem State.Inv.core_run {s : State} (hs : s.Inv) (n : Nat) : ∃ t, Sys2Proof.core.run n s = .next t ∧ t.Inv := by
  induction n generalizing s with
  | zero => exact ⟨s, rfl, hs⟩
  | succ n ih =>
    obtain ⟨u, hstep⟩ := noStepStopsWithinInvariant s hs
    rw [core_run_succ n hstep]
    exact ih (stepKeepsInvariant s u hs hstep)

/-- Each step takes one entry off the schedule. -/
theorem core_run_schedule {s t : State} {n : Nat} (h : Sys2Proof.core.run n s = .next t) :
    t.schedule = s.schedule.drop n := by
  induction n generalizing s with
  | zero =>
    obtain rfl := Host.Outcome.next.inj h
    rfl
  | succ n ih =>
    obtain ⟨u, hstep, hrun⟩ := core_run_succ_cases h
    rw [ih hrun, step_schedule hstep, List.drop_tail]

/-- Steps of the schedule do the same whatever stands behind the schedule. -/
theorem core_run_append {s t : State} {n : Nat} (h : Sys2Proof.core.run n s = .next t) (hn : n ≤ s.schedule.length)
    (steps : List AgentStep) :
    Sys2Proof.core.run n (s.setSchedule (s.schedule ++ steps)) = .next (t.setSchedule (t.schedule ++ steps)) := by
  induction n generalizing s with
  | zero =>
    obtain rfl := Host.Outcome.next.inj h
    rfl
  | succ n ih =>
    obtain ⟨u, hstep, hrun⟩ := core_run_succ_cases h
    have hu : n ≤ u.schedule.length := by
      rw [step_schedule hstep, List.length_tail]
      omega
    rw [core_run_succ n (step_append hstep (List.ne_nil_of_length_pos (by omega)) steps)]
    exact ih hrun hu

/-! ## Runs to the last response (R152) -/

/-- The run of a schedule with no transaction takes no step. -/
theorem runToLastResponse_of_no_host {s : State} (h : s.schedule.any AgentStep.isHost = false) :
    runToLastResponse s = .next s := by
  rw [runToLastResponse, runLength_of_no_host h]
  rfl

theorem transact_response_isSome {cmd data : Word} {s t : State} (h : transact cmd data s = .next t) :
    t.response.isSome = true := by
  obtain ⟨i, -, heq⟩ | ⟨e, -, heq⟩ := transact_cases cmd data s
  · cases exec_effect (heq.symm.trans h) <;> rfl
  · obtain rfl := Host.Outcome.next.inj (heq.symm.trans h)
    rfl

/-- A run with a transaction ends with a response: its last step is a transaction, which is answered. -/
theorem runToLastResponse_response {s t : State} (h : runToLastResponse s = .next t)
    (hhost : s.schedule.any AgentStep.isHost = true) : t.response.isSome = true := by
  induction hschedule : s.schedule generalizing s with
  | nil =>
    rw [hschedule] at hhost
    cases hhost
  | cons a rest ih =>
    rw [hschedule] at hhost
    rw [runToLastResponse, hschedule, runLength_cons hhost] at h
    obtain ⟨u, hstep, hrun⟩ := core_run_succ_cases h
    have hrest : u.schedule = rest := by rw [step_schedule hstep, hschedule, List.tail_cons]
    cases hlater : rest.any AgentStep.isHost with
    | true => exact ih (by rwa [runToLastResponse, hrest]) (hrest ▸ hlater) hrest
    | false =>
      rw [runLength_of_no_host hlater] at hrun
      obtain rfl := Host.Outcome.next.inj hrun
      cases a with
      | tick => cases hhost.symm.trans hlater
      | host cmd data => exact transact_response_isSome ((step_host hschedule).symm.trans hstep)

/-- Settles O5: a run is as many steps as its length says, each of which completes, keeps the invariant, takes one entry off
the schedule and does not read what stands behind the schedule. -/
theorem everyRunEndsInALegalState : Obligations.EveryRunEndsInALegalState := by
  have hreset (schedule : List AgentStep) : ({ State.reset with schedule := schedule } : State).Inv :=
    { resetMeetsInvariant with }
  refine ⟨fun s hs => ?_, fun s hs => ?_, fun s t n h => ?_, hreset, fun schedule => (hreset schedule).core_run _⟩
  · obtain ⟨t, hrun, ht⟩ := hs.core_run s.schedule.length
    exact ⟨t, hrun, ht, (core_run_schedule hrun).trans List.drop_length⟩
  · obtain ⟨t, hrun, ht⟩ := hs.core_run (runLength s.schedule)
    have hleft := core_run_schedule hrun
    refine ⟨t, hrun, ht, hleft, fun a ha => ?_, runToLastResponse_response hrun, fun hticks => ?_⟩
    · exact Bool.eq_false_iff.mpr (List.any_eq_false.mp (no_host_after_run s.schedule) a (hleft ▸ ha))
    · exact Host.Outcome.next.inj (hrun.symm.trans (runToLastResponse_of_no_host hticks))
  · rw [runToLastResponse, runLength_append_ticks]
    exact core_run_append h (runLength_le s.schedule) _

end Sys2Proof.Machine
end

section
/-! SUPPORT. The state after reset (R140) and the ticks left before an underrun (R145). -/

namespace Sys2Proof.Machine

theorem State.reset_occ : State.reset.occ = 0 := by
  obtain ⟨hw, hr, -⟩ := resetMeetsInvariant.ring
  exact (cursorOcc_eq_zero_iff hw hr).mpr rfl

/-- Settles O1: the values `State.resetWith` gives, for the open configuration. -/
theorem resetHoldsSpecValues : Obligations.ResetHoldsSpecValues := by
  refine ⟨rfl, rfl, rfl, rfl, rfl, fun _ => rfl, rfl, rfl, rfl, rfl, fun k hk => ?_, List.length_replicate, fun c hc => ?_,
    State.reset_occ, ?_⟩
  · exact Vector.getElem_replicate hk
  · exact List.getElem?_replicate_of_lt hc
  · rw [State.writable, State.reset_occ, Nat.sub_zero]

/-- The read position is inside the readable blocks, if there are any, and 0 if there are none. -/
theorem State.RingOk.rbPos_le {s : State} (h : s.RingOk) : s.rbPos.toNat ≤ s.occ * s.cfg.blockSize := by
  obtain ⟨-, -, -, hempty, hpos⟩ := h
  obtain hocc | hocc := Nat.eq_zero_or_pos s.occ
  · rw [hempty hocc]
    exact Nat.zero_le _
  · exact hpos.le.trans (Nat.le_mul_of_pos_left _ hocc)

theorem State.RingOk.ticksToUnderrun_eq_zero_iff {s : State} (h : s.RingOk) : s.ticksToUnderrun = 0 ↔ s.occ = 0 := by
  obtain ⟨-, -, -, -, hpos⟩ := h
  rw [State.ticksToUnderrun]
  refine ⟨fun hticks => ?_, fun hocc => by rw [hocc, Nat.zero_mul, Nat.zero_sub]⟩
  by_contra hocc
  have hblock := Nat.le_mul_of_pos_left s.cfg.blockSize (Nat.pos_of_ne_zero hocc)
  omega

/-- An enabled tick with a readable block takes one from the ticks left. -/
theorem State.Inv.tickStep_ticksToUnderrun {s t : State} (hs : s.Inv) (hen : s.tcEn = true) (hocc : 1 ≤ s.occ)
    (h : tickStep s = .next t) : t.ticksToUnderrun + 1 = s.ticksToUnderrun := by
  obtain rfl := Host.Outcome.next.inj ((hs.tickStep_consumes hen hocc).symm.trans h)
  exact ((hs.takeDraws _).setDac _).advanceRead_ticksToUnderrun hocc

/-- A commit adds a block to the ticks left. -/
theorem State.Inv.advanceW_ticksToUnderrun {s : State} (hs : s.Inv) (hspace : s.writable ≠ 0) :
    s.advanceW.ticksToUnderrun = s.ticksToUnderrun + s.cfg.blockSize := by
  have hpos := hs.ring.rbPos_le
  rw [State.ticksToUnderrun, State.ticksToUnderrun, hs.advanceW_occ hspace, s.advanceW_cfg, s.advanceW_rbPos, Nat.succ_mul]
  omega

/-- Settles O52: within the invariant the read position stays inside the readable blocks, so the difference loses nothing. -/
theorem ticksLeftBeforeUnderrun : Obligations.TicksLeftBeforeUnderrun := by
  refine ⟨fun s hs => hs.ring.ticksToUnderrun_eq_zero_iff, fun s t hs hen hocc h => hs.tickStep_ticksToUnderrun hen hocc h,
    fun s t hs hspace h => ?_⟩
  obtain rfl := Host.Outcome.next.inj ((exec_rbCommit_space hspace).symm.trans h)
  exact hs.advanceW_ticksToUnderrun hspace

end Sys2Proof.Machine
end
